-- ==== Sys2Proof/Word.lean ====
section
/-! DEFINITION. The widths of the FS-408: the names under which the manual's numbers and bit fields go. -/

namespace Sys2Proof

/-- One byte of a frame (R96). -/
abbrev Byte := BitVec 8

/-- A phase in phase units: a full cycle is 2^32, and all phase arithmetic is modulo 2^32 (0.5.4). -/
abbrev Phase := BitVec 32

/-- A value of the free-running tick counter, modulo 2^32 (R2). -/
abbrev Tick := BitVec 32

/-- A 16-bit angle: the top 16 bits of a phase (0.5.4). -/
abbrev Angle := BitVec 16

/-- A two-byte field of a request or of a step record (R116). -/
abbrev Word16 := BitVec 16

/-- A converter code: 16 bits, read as signed (0.5.7). -/
abbrev Code := BitVec 16

/-- A slot number of the step ring, 0..255; the successor of 255 is 0 (R51). -/
abbrev Slot := BitVec 8

/-- The number of a phase station, 0..7 (0.5.8). -/
abbrev Station := BitVec 3

/-- A four-bit node number of the station link: 0..7 stations, 8..14 service nodes, 15 ALL (0.5.8). -/
abbrev NodeNumber := BitVec 4

/-- The number of a harmonic profile, 0..7 (R58). -/
abbrev ProfileIndex := BitVec 3

/-- The number of an overlay slot, 0..7 (R36). -/
abbrev OverlayIndex := BitVec 3

/-- The tag of a joint step, 0..255 (R54). -/
abbrev Tag := BitVec 8

/-- A set of station numbers: bit n is station n (R116). -/
abbrev Mask := BitVec 8

/-- A cycle counter, 0..65,535, wrapping (R6). -/
abbrev CycleCount := BitVec 16

end Sys2Proof
end

