-- ==== Sys2Proof/Syntax.lean ====
section
/-! DEFINITION. The commands of the FS-408: one constructor of `Instr` for each row of the table of
operations and events, with the row's operands, and the named sets of values those operands use.
A request's operands are the fields of its payload AS SENT (R103: "the values are handed on as read"),
so that the receiving block's own tests and clamps are part of the meaning. -/

namespace Sys2Proof

/-- The nine sequencer states (5.1). -/
inductive SeqState where
  | idle | armed | gathering | active | frozen | held | suspended | tripped | faulted
  deriving DecidableEq, Repr

/-- The three output states (2.8). -/
inductive OutState where
  | dark | live | falling
  deriving DecidableEq, Repr

/-- The lock states (R125). -/
inductive LockState where
  | alone | seeking | locked
  deriving DecidableEq, Repr

/-- The cause a STATUS carries (R113, R116). -/
inductive StatusCause where
  | start | query | run | taken | started | ended | dry | hold | release | suspend | withdrawn
  | freeze | thaw | abort | trip | fault | clear
  deriving DecidableEq, Repr

/-- The reset kinds, which are also the start causes (R158). -/
inductive StartCause where
  | powerOn | supplyLow | resetPin
  deriving DecidableEq, Repr

/-- The cause of a trip (R153). -/
inductive TripCause where
  | foldback | followed | peerLost
  deriving DecidableEq, Repr

/-- The reason a WITHDRAW carries (R116). -/
inductive WithdrawReason where
  | timeout | peerTrip | peerLost | ownTrip | aborted
  deriving DecidableEq, Repr

/-- The trip policies (R54). -/
inductive TripPolicy where
  | follow | hold | ignore
  deriving DecidableEq, Repr

/-- The frames that stations send and that concern no block of a station (R102). -/
inductive ReplyKind where
  | result | answer | stepCopy
  deriving DecidableEq, Repr

/-- The request kinds (R103). -/
inductive RequestKind where
  | setup | stepWrite | profileWrite | stepRead | run | suspend | release | abort | clear | query
  deriving DecidableEq, Repr

/-- The node a request came from, and whether it was addressed to ALL rather than to the station (R103). -/
structure Requester where
  node : NodeNumber
  toAll : Bool
  deriving DecidableEq, Repr

/-- The four strap groups (R160). The station count is 1..8. -/
structure Straps where
  number : Station
  count : Nat
  offsetSelect : BitVec 3
  gainSelect : BitVec 2
  deriving DecidableEq, Repr

/-- What the outside presents at a sample event: the voltage and current codes of the feedback
converter (R138) and the levels of the marker inputs (R74). -/
structure SampleInputs where
  voltage : Code
  current : Code
  in0 : Bool
  in1 : Bool
  deriving DecidableEq, Repr

/-- The fields of a MARK payload (R116). -/
structure MarkFields where
  age : Word16
  lock : LockState
  seq : SeqState
  out : OutState
  slot : Slot
  deriving DecidableEq, Repr

/-- The seven values of a SETUP request as received (R116, R162). -/
structure RawSetup where
  pNom : Word16
  clip : Word16
  limit : Word16
  dSafe : Word16
  foldStep : Byte
  policy : Byte
  frequency : Word16
  deriving DecidableEq, Repr

/-- One entry of a harmonic profile: order, amplitude in per mille, phase (R58, R116). -/
structure ProfileEntry where
  order : Byte
  amplitude : Word16
  phase : Angle
  deriving DecidableEq, Repr

/-- One overlay-change entry as sent: the slot and action nibbles of its first byte, bytes 1–4 and
bytes 5–6 (R116). -/
structure RawOverlay where
  slot : BitVec 4
  action : BitVec 4
  wide : BitVec 32
  narrow : Word16
  deriving DecidableEq, Repr

/-- The three bytes of a `joint` part as sent (R116). -/
structure RawJoint where
  tag : Tag
  mask : Mask
  timeout : Byte
  deriving DecidableEq, Repr

/-- A step record image as a STEP_WRITE carries it (R116): codes are still numbers, values are not
yet clamped, and the outcome part, which is not read, is left out. -/
structure RawRecord where
  live : Bool
  wrap : Bool
  kind : BitVec 2
  holdAfter : Bool
  notify : Bool
  unit : Bool
  loopCount : Byte
  ramp : Word16
  level : Option Word16
  frequency : Option Word16
  startAngle : Option Angle
  duration : Option Word16
  await : Option Byte
  joint : Option RawJoint
  tripPolicy : Option Byte
  currentLimit : Option Word16
  tripCycles : Option Byte
  profile : Option Byte
  markers : Option (BitVec 4)
  overlays : List RawOverlay
  deriving DecidableEq, Repr

/-- The commands and events of the FS-408, one for each row of spec/opcode_table.json.
`elapsed` is the number of crystal ticks since the block's latest timed event. -/
inductive Instr where
  /-- POWER_ON (R158) -/
  | powerOn
  /-- SUPPLY_LOW (R158) -/
  | supplyLow
  /-- RESET_PIN (R158) -/
  | resetPin
  /-- RESET_RELEASED (R158) -/
  | resetReleased
  /-- POWER_UP_DELAY_END (R159) -/
  | powerUpDelayEnd
  /-- OSCILLATOR_COUNT_END, with the levels of the straps (R159, R160) -/
  | oscillatorCountEnd (straps : Straps)
  /-- SAMPLE_EVENT (R3) -/
  | sampleEvent (inputs : SampleInputs)
  /-- LEVEL_RAMP_END (R22) -/
  | levelRampEnd
  /-- FREQUENCY_RAMP_END (R9) -/
  | frequencyRampEnd
  /-- SAFE_RAMP_DOWN_END (R33) -/
  | safeRampDownEnd
  /-- STEP_DURATION_END (R79) -/
  | stepDurationEnd
  /-- MARKER_LIMIT (R73) -/
  | markerLimit
  /-- OWN_TRIP (R151) -/
  | ownTrip
  /-- PEER_LOST, of one station (R122) -/
  | peerLost (station : Station)
  /-- GATHER_TIMEOUT (R133) -/
  | gatherTimeout
  /-- LINE_IDLE (R95) -/
  | lineIdle
  /-- TRANSMIT_START (R97) -/
  | transmitStart (elapsed : Nat)
  /-- ARBITRATION_LOSS (R97) -/
  | arbitrationLoss
  /-- COLLISION (R98) -/
  | collision
  /-- BAD_FRAME (R100) -/
  | badFrame
  /-- MARK_RECEIVED (R118) -/
  | markReceived (sender : Station) (mark : MarkFields)
  /-- TRIP_RECEIVED (R120) -/
  | tripReceived (sender : Station) (cause : TripCause) (slot : Slot)
  /-- JOIN_RECEIVED (R130) -/
  | joinReceived (sender : Station) (tag : Tag) (mask : Mask)
  /-- WITHDRAW_RECEIVED (R134) -/
  | withdrawReceived (sender : Station) (tag : Tag) (reason : WithdrawReason)
  /-- STATUS_RECEIVED, with the two fields PTB reads (R120) -/
  | statusReceived (sender : Station) (cause : StatusCause) (seq : SeqState)
  /-- REPLY_FRAME_RECEIVED (R102) -/
  | replyFrameReceived (sender : Station) (kind : ReplyKind)
  /-- SETUP (R161) -/
  | setup (req : Requester) (values : RawSetup)
  /-- STEP_WRITE (R60) -/
  | stepWrite (req : Requester) (slot : Slot) (record : RawRecord)
  /-- PROFILE_WRITE (R64) -/
  | profileWrite (req : Requester) (index : Byte) (count : Byte) (entries : List ProfileEntry)
  /-- STEP_READ (R66) -/
  | stepRead (req : Requester) (slot : Slot)
  /-- RUN, with its start slot if it names one (R85) -/
  | run (req : Requester) (start : Option Slot)
  /-- SUSPEND (R86) -/
  | suspend (req : Requester)
  /-- RELEASE (R84) -/
  | release (req : Requester)
  /-- ABORT (R87) -/
  | abort (req : Requester)
  /-- CLEAR (R88) -/
  | clear (req : Requester)
  /-- QUERY (R104) -/
  | query (req : Requester)
  /-- UNREADABLE_REQUEST, with the request's kind and its first payload byte, 0 when it had none (R103) -/
  | unreadableRequest (req : Requester) (kind : RequestKind) (first : Byte)
  /-- START_BIT_SEEN (R95) -/
  | startBitSeen (elapsed : Nat)
  /-- DOMINANT_BIT_NOT_IDLE (R95) -/
  | dominantBitNotIdle
  /-- IGNORED_FRAME_RECEIVED (R101), with the sender number of its arbitration byte -/
  | ignoredFrameReceived (sender : NodeNumber)
  /-- OWN_ABORTED_FRAME_DISCARDED (R98) -/
  | ownAbortedFrameDiscarded
  deriving DecidableEq, Repr

end Sys2Proof
end

