-- ==== Sys2Proof/Decode.lean ====
section
/-! DEFINITION. The commands that a word spells by the bits of spec/opcode_table.json. No row of that table
gives a bit (every row's "fields" is empty and none has "fixed"), so no word spells a command. The station
link's own encodings (R116) are in Sys2Proof/Machine/Wire.lean. -/

namespace Sys2Proof

/-- The command a word of `nbits` bits spells by the table's bits: the table gives none. -/
def decodeTableWord (_nbits _w : Nat) : Option Instr := none

end Sys2Proof
end

