-- ==== Sys2Proof/Config.lean ====
section
/-! DEFINITION. What the manual leaves to no rule: the free value of the model. -/

namespace Sys2Proof

/-- FREE VALUE. The manual lets two things that fall together be taken in either order and gives no rule
for which (R136, R155: FTU's and JNT's reaction to one peer event; R49, R91, R144: an own trip and the start
sample, the count or the end of the step it meets; R122, R155, R164: a loss and SEQ's work of its sample; R122,
R133: a loss and a timeout on one common wrap). The `n`-th such order that the block has to take is
`Config.freeOrder n`; nothing constrains it. DESIGN CHOICE, safe, notes/assumptions/2.md. -/
opaque Config.freeOrder : Nat → Bool

end Sys2Proof
end

