-- ==== Sys2Proof/Machine/State.lean ====
section
/-! DEFINITION. The state of an FS-408, block by block as section 0.2 lists the blocks, and the state
after a reset. Plain data throughout. -/

namespace Sys2Proof.Machine

/-! ### Stored records (PLS, OVL, SYN) -/

/-- The kind of a step record (R52). -/
inductive StepKind where
  | normal | loopBegin | loopEnd
  deriving DecidableEq, Repr

/-- The unit of a duration (R53). -/
inductive DurationUnit where
  | samples | cycles
  deriving DecidableEq, Repr

/-- The marker input and level a step awaits (R54). -/
inductive Await where
  | none | in0High | in0Low | in1High | in1Low
  deriving DecidableEq, Repr

/-- What a step does to one marker output (R55). -/
inductive MarkerSetting where
  | keep | low | high
  deriving DecidableEq, Repr

/-- How a pass of a step ended (R56). -/
inductive EndReason where
  | completed | aborted | tripped | withdrawn
  deriving DecidableEq, Repr

/-- A kind and its parameters, as an ARM entry gives them (R36, R39). The codes are signed. -/
inductive OverlayArm where
  | tone (frequency : BitVec 32) (amplitude : Word16)
  | offset (code : Code)
  | notch (depth : Word16) (w0 w1 : Angle)
  | flattop (bound : Word16) (w0 w1 : Angle)
  | force (code : Code) (w0 w1 : Angle)
  deriving DecidableEq, Repr

/-- One stored entry of an overlay-change list (R55). -/
structure OverlayChange where
  slot : OverlayIndex
  /-- `none` is DISARM. -/
  arm : Option OverlayArm
  deriving DecidableEq, Repr

/-- The stored `joint` part (R54). -/
structure JointPart where
  tag : Tag
  mask : Mask
  timeout : Byte
  deriving DecidableEq, Repr

/-- The stored `markers` part (R55). -/
structure MarkerPart where
  out0 : MarkerSetting
  out1 : MarkerSetting
  deriving DecidableEq, Repr

/-- The lowest and the highest Lrms of a set of cycles; both stand or are absent together (R56). -/
structure LrmsRange where
  lowest : Nat
  highest : Nat
  deriving DecidableEq, Repr

/-- The outcome part of a step record (R56). -/
structure StepOutcome where
  endReason : EndReason
  passes : Nat
  cyclesMeasured : Nat
  lrms : Option LrmsRange
  limitedSamples : Nat
  foldedCycles : Nat
  deriving DecidableEq, Repr

/-- A step record as stored (R51–R55). `profile` holds an index or none inside the part's own presence. -/
structure StepRecord where
  live : Bool
  wrap : Bool
  kind : StepKind
  loopCount : Byte
  level : Option Word16
  frequency : Option Word16
  ramp : Word16
  startAngle : Option Angle
  duration : Option Word16
  unit : DurationUnit
  await : Option Await
  joint : Option JointPart
  tripPolicy : Option TripPolicy
  currentLimit : Option Word16
  tripCycles : Option Byte
  profile : Option (Option ProfileIndex)
  markers : Option MarkerPart
  holdAfter : Bool
  notify : Bool
  overlays : List OverlayChange
  outcome : Option StepOutcome
  deriving DecidableEq, Repr

/-- The empty record (R67). -/
def StepRecord.empty : StepRecord :=
  { live := false, wrap := false, kind := .normal, loopCount := 0, level := none, frequency := none
    ramp := 0, startAngle := none, duration := none, unit := .samples, await := none, joint := none
    tripPolicy := none, currentLimit := none, tripCycles := none, profile := none, markers := none
    holdAfter := false, notify := false, overlays := [], outcome := none }

/-- The kinds of an overlay slot, as the state summary reports them (R36, R113). -/
inductive OverlayKind where
  | off | tone | offset | notch | flattop | force
  deriving DecidableEq, Repr

/-- An overlay slot record (R36): a kind, its parameters, and for a TONE its increment and slot phase. -/
inductive OverlaySlot where
  | off
  | tone (frequency : BitVec 32) (increment : Phase) (amplitude : Word16) (phase : Phase)
  | offset (code : Code)
  | notch (depth : Word16) (w0 w1 : Angle)
  | flattop (bound : Word16) (w0 w1 : Angle)
  | force (code : Code) (w0 w1 : Angle)
  deriving DecidableEq, Repr

/-! ### Frames (LNK) -/

/-- Why SEQ is FAULTED (5.1). -/
inductive FaultCause where
  | none | strap | duplicateNumber | nestedLoop | markerLimit
  deriving DecidableEq, Repr

/-- The result codes of an ANSWER (R112). -/
inductive AnswerCode where
  | ok | clamped | busy | range | refused | notHeld
  deriving DecidableEq, Repr

/-- The state of a peer record (R117). -/
inductive PeerState where
  | absent | present | lost
  deriving DecidableEq, Repr

/-- The loop SEQ is inside: its start slot and the passes that remain (R72). -/
structure OpenLoop where
  start : Slot
  remaining : Nat
  deriving DecidableEq, Repr

/-- The state summary a STATUS carries (R113). -/
structure Summary where
  cause : StatusCause
  seq : SeqState
  out : OutState
  lock : LockState
  faultCause : FaultCause
  startCause : StartCause
  pointer : Slot
  ringStart : Slot
  loop : Option OpenLoop
  holdsSlot : Bool
  suspendLatch : Bool
  limited : Bool
  folded : Bool
  clampHit : Bool
  rxCheck : Bool
  txDrop : Bool
  markReplaced : Bool
  markStale : Bool
  energized : Bool
  out0 : Bool
  out1 : Bool
  in0 : Bool
  in1 : Bool
  level : Nat
  profile : Option ProfileIndex
  pendingHeld : Bool
  overlayKinds : Vector OverlayKind 8
  phi : Nat
  tripCause : Option TripCause
  ownCycles : CycleCount
  lastLrms : Nat
  checkErrors : Nat
  collisions : Nat
  peers : Vector (PeerState × Bool) 8
  streak : Nat
  deriving DecidableEq, Repr

/-- The content of a frame a station sends (R111). -/
inductive Payload where
  | mark (fields : MarkFields)
  | trip (cause : TripCause) (slot : Slot)
  | withdraw (tag : Tag) (reason : WithdrawReason)
  | join (tag : Tag) (mask : Mask)
  | status (summary : Summary)
  | result (slot : Slot) (live : Bool) (outcome : StepOutcome)
  | answer (kind : RequestKind) (first : Byte) (code : AnswerCode)
  | stepCopy (slot : Slot) (record : StepRecord)
  deriving DecidableEq, Repr

/-- A frame as a block offers it: a MARK has only its mark instant until its start bit (R110), and every
other frame's addressee and payload are fixed when it is offered (R111). -/
inductive TxItem where
  | mark (instant : Tick)
  | frame (addressee : NodeNumber) (payload : Payload)
  deriving DecidableEq, Repr

/-- A queue entry: a frame waiting to be sent, with its entry order (R105). -/
structure TxEntry where
  order : Nat
  item : TxItem
  deriving DecidableEq, Repr

/-- The frame in the shifter: its entry, the payload as filled at its start bit, and whether JNT asked to
have it discarded if it returns (R105, R109, R110). -/
structure Shifter where
  entry : TxEntry
  payload : Payload
  discard : Bool
  deriving DecidableEq, Repr

/-- What LNK latches at the start bit of a frame it begins to assemble (R119), and whether a phase
capture has been taken since. -/
structure StartLatch where
  tick : Tick
  thetaC : Phase
  fEff : Nat
  captured : Bool
  deriving DecidableEq, Repr

/-! ### The blocks -/

/-- Where the station stands between the assertion of a reset and the end of the start sequence
(R158, R159). -/
inductive StartPhase where
  | asserted | powerUpDelay | oscillatorCount | running
  deriving DecidableEq, Repr

/-- The seven SETUP values (R162). -/
structure Setup where
  pNom : Nat
  clip : Nat
  limit : Nat
  dSafe : Nat
  foldStep : Nat
  policy : TripPolicy
  frequency : Nat
  deriving DecidableEq, Repr

/-- The Start Controller: start stage, start cause, pending cause, straps, SETUP values and the
energized-since-start latch (R158–R163). -/
structure Stc where
  phase : StartPhase
  startCause : StartCause
  pendingCause : Option StartCause
  straps : Straps
  setup : Setup
  energized : Bool
  deriving DecidableEq, Repr

/-- A frequency ramp in progress (R8). -/
structure FreqRamp where
  start : Nat
  target : Nat
  length : Nat
  index : Nat
  deriving DecidableEq, Repr

/-- The Cycle Timebase: tick counter, sample divider, own phase θ, phase offset δ, base increment F,
frequency ramp, lock correction C, own-cycle and common-cycle counters (R2–R16). -/
structure Ctb where
  tick : Tick
  divider : Nat
  theta : Phase
  delta : Phase
  f : Nat
  ramp : Option FreqRamp
  c : Int
  ownCycles : CycleCount
  commonCycles : CycleCount
  deriving DecidableEq, Repr

/-- A level ramp in progress (R21). -/
structure LevelRamp where
  start : Nat
  target : Nat
  length : Nat
  index : Nat
  deriving DecidableEq, Repr

/-- A safe ramp-down in progress: L_start, the length it took when it began, the samples computed (R23). -/
structure SafeRamp where
  start : Nat
  length : Nat
  index : Nat
  deriving DecidableEq, Repr

/-- The Synthesis Engine: output state, envelope and its ramps, profile selection and pending copy,
LIMITED, the limited-sample count, and the code the converter port presents (R18–R35). -/
structure Syn where
  out : OutState
  level : Nat
  ramp : Option LevelRamp
  safe : Option SafeRamp
  profile : Option ProfileIndex
  pendingCopy : Option (ProfileIndex × List ProfileEntry)
  limited : Bool
  limitedSamples : Nat
  dac : Int
  deriving DecidableEq, Repr

/-- The Overlay Slots (R36). -/
structure Ovl where
  slots : Vector OverlaySlot 8
  deriving DecidableEq, Repr

/-- The Plan Store: the step ring and the harmonic profiles (R51, R58). -/
structure Pls where
  ring : Vector StepRecord 256
  profiles : Vector (List ProfileEntry) 8
  deriving DecidableEq, Repr

/-- SEQ's pass tally of the step in effect (R145). -/
structure Tally where
  cycles : Nat
  lrms : Option LrmsRange
  deriving DecidableEq, Repr

/-- The Step Sequencer (5.1). `awaitOpen`: the await gate of the step in ARMED has opened (R74);
`retest`: the step has just started and its records are tested again on the next sample event (R89);
`markerLimit`: a taking has read its 1,024th loop marker and the fault is due (R73). -/
structure Seq where
  state : SeqState
  pointer : Slot
  ringStart : Slot
  image : Option StepRecord
  loop : Option OpenLoop
  progress : Nat
  suspendLatch : Bool
  out0 : Bool
  out1 : Bool
  in0 : Bool
  in1 : Bool
  faultCause : FaultCause
  tally : Tally
  awaitOpen : Bool
  retest : Bool
  markerLimit : Bool
  deriving DecidableEq, Repr

/-- The gate states of JNT (8.1). -/
inductive GateState where
  | idle | opened | withdrawing | complete
  deriving DecidableEq, Repr

/-- The Joint Gate (R128). `angleTest`: the first common wrap after completion has come, so the
start-angle test is being made (R132). -/
structure Jnt where
  gate : GateState
  tag : Tag
  mask : Mask
  timeout : Nat
  entry : CycleCount
  ownJoin : Bool
  withdrawRef : Option WithdrawReason
  angleTest : Bool
  deriving DecidableEq, Repr

/-- The Link Controller: the line as LNK sees it, the transmit queue in the order it goes out, the
shifter, the frame being assembled with its start latch, the two counters and the four sticky flags
(R95–R115). -/
structure Lnk where
  lineIdle : Bool
  recessive : Nat
  queue : List TxEntry
  nextOrder : Nat
  shifter : Option Shifter
  assembling : Bool
  ownAborted : Bool
  latch : StartLatch
  checkErrors : Nat
  collisions : Nat
  rxCheck : Bool
  txDrop : Bool
  markReplaced : Bool
  markStale : Bool
  deriving DecidableEq, Repr

/-- A peer record (R117). -/
structure PeerRecord where
  state : PeerState
  error : Int
  fresh : Bool
  age : Nat
  tripped : Bool
  reported : SeqState
  joinTag : Option Tag
  deriving DecidableEq, Repr

/-- The Peer Table (R117). -/
structure Ptb where
  peers : Vector PeerRecord 8
  deriving DecidableEq, Repr

/-- The Lock Controller: lock state, lock streak and the sticky flag CLAMP_HIT (R124, R125). `waiting`: the
evaluation of the latest common wrap waits for the losses of that wrap (R122, R123), with the base increment of
the wrap sample's advance (R10). -/
structure Lck where
  state : LockState
  streak : Nat
  clampHit : Bool
  waiting : Option Nat
  deriving DecidableEq, Repr

/-- The Feedback Monitor: the open cycle and the last-cycle Lrms (R139, R143). -/
structure Fbm where
  sumSquares : Nat
  samples : Nat
  peakV : Nat
  peakI : Nat
  lastLrms : Nat
  deriving DecidableEq, Repr

/-- The Fold-back and Trip Unit (R147). `tripDue`: a folded cycle has raised the streak to a non-zero
`trip_cycles` in force and the own trip is due (R151). -/
structure Ftu where
  phi : Nat
  limit : Nat
  tripCycles : Nat
  stepPolicy : Option TripPolicy
  streak : Nat
  foldedCycles : Nat
  tripCause : Option TripCause
  folded : Bool
  tripDue : Bool
  deriving DecidableEq, Repr

/-- The state of a station. `freeCount` is the model's own: how many orders left open by the manual have
been drawn (`Config.freeOrder`). `pending` is the queue of waiting commands, first in, first out. -/
structure State where
  stc : Stc
  ctb : Ctb
  syn : Syn
  ovl : Ovl
  pls : Pls
  seq : Seq
  jnt : Jnt
  lnk : Lnk
  ptb : Ptb
  lck : Lck
  fbm : Fbm
  ftu : Ftu
  freeCount : Nat
  pending : List Instr
  deriving DecidableEq, Repr

/-- Why a machine stops with a fault: the manual describes no such stop. Every condition it calls a fault
is a sequencer state, FAULTED, that the station goes on from, so this type has no constructor and no
step answers a fault. -/
inductive Fault where
  deriving DecidableEq, Repr

/-- Why a command has no meaning. -/
inductive Refusal where
  /-- Raised by `exec` alone, for a command not modelled yet; safe (nothing can be proved of a run past it). -/
  | notModelled (mnemonic : String)
  deriving DecidableEq, Repr

/-! ### Named updates, one for each block -/

/-- The state with another Start Controller. -/
def State.setStc (s : State) (x : Stc) : State := { s with stc := x }
/-- The state with another Cycle Timebase. -/
def State.setCtb (s : State) (x : Ctb) : State := { s with ctb := x }
/-- The state with another Synthesis Engine. -/
def State.setSyn (s : State) (x : Syn) : State := { s with syn := x }
/-- The state with other overlay slots. -/
def State.setOvl (s : State) (x : Ovl) : State := { s with ovl := x }
/-- The state with another Plan Store. -/
def State.setPls (s : State) (x : Pls) : State := { s with pls := x }
/-- The state with another Step Sequencer. -/
def State.setSeq (s : State) (x : Seq) : State := { s with seq := x }
/-- The state with another Joint Gate. -/
def State.setJnt (s : State) (x : Jnt) : State := { s with jnt := x }
/-- The state with another Link Controller. -/
def State.setLnk (s : State) (x : Lnk) : State := { s with lnk := x }
/-- The state with another Peer Table. -/
def State.setPtb (s : State) (x : Ptb) : State := { s with ptb := x }
/-- The state with another Lock Controller. -/
def State.setLck (s : State) (x : Lck) : State := { s with lck := x }
/-- The state with another Feedback Monitor. -/
def State.setFbm (s : State) (x : Fbm) : State := { s with fbm := x }
/-- The state with another Fold-back and Trip Unit. -/
def State.setFtu (s : State) (x : Ftu) : State := { s with ftu := x }
/-- The state with another count of drawn orders. -/
def State.setFreeCount (s : State) (x : Nat) : State := { s with freeCount := x }
/-- The state with another queue of waiting commands. -/
def State.setPending (s : State) (x : List Instr) : State := { s with pending := x }

/-! ### The machine right after reset -/

/-- The SETUP defaults (R162). -/
def Setup.default : Setup :=
  { pNom := 16384, clip := 32000, limit := 24000, dSafe := 1024, foldStep := 8, policy := .follow
    frequency := 5000 }

/-- The straps of the model's reset state. DESIGN CHOICE: a single station, number 0 of 1, at 0° with
gain select 0; OSCILLATOR_COUNT_END samples any others. notes/assumptions/1.md. -/
def Straps.atReset : Straps := { number := 0, count := 1, offsetSelect := 0, gainSelect := 0 }

/-- A peer record other than the station's own at the end of the start sequence (R117). -/
def PeerRecord.absent : PeerRecord :=
  { state := .absent, error := 0, fresh := false, age := 0, tripped := false, reported := .idle
    joinTag := none }

/-- The station's own record at the end of the start sequence (R117). -/
def PeerRecord.own : PeerRecord :=
  { PeerRecord.absent with state := .present, fresh := true }

/-- The Plan Store after POWER_ON or SUPPLY_LOW: 256 empty records and eight empty profiles (R67). -/
def Pls.empty : Pls :=
  { ring := Vector.replicate 256 StepRecord.empty, profiles := Vector.replicate 8 [] }

/-- The STATUS with cause START of `State.reset`, which STC offers at the end of the sequence (R159). -/
def Summary.atReset : Summary :=
  { cause := .start, seq := .idle, out := .dark, lock := .alone, faultCause := .none
    startCause := .powerOn, pointer := 0, ringStart := 0, loop := none, holdsSlot := false
    suspendLatch := false, limited := false, folded := false, clampHit := false, rxCheck := false
    txDrop := false, markReplaced := false, markStale := false, energized := false, out0 := false
    out1 := false, in0 := false, in1 := false, level := 0, profile := none, pendingHeld := false
    overlayKinds := Vector.replicate 8 .off, phi := 1024, tripCause := none, ownCycles := 0, lastLrms := 0
    checkErrors := 0, collisions := 0
    peers := (Vector.replicate 8 (PeerState.absent, false)).set 0 (PeerState.present, false), streak := 0 }

/-- The machine at the end of the start sequence after POWER_ON, which is the state the manual's reset
tables give (R16, R35, R50, R67, R94, R115, R117, R125, R128, R146, R147, R159, R162): SEQ IDLE, output
DARK, lock ALONE, the SETUP defaults, an empty plan, and the STATUS with cause START in the queue. -/
def State.reset : State :=
  { stc := { phase := .running, startCause := .powerOn, pendingCause := none, straps := Straps.atReset
             setup := Setup.default, energized := false }
    ctb := { tick := 0, divider := 0, theta := 0, delta := 0, f := 8388608, ramp := none, c := 0
             ownCycles := 0, commonCycles := 0 }
    syn := { out := .dark, level := 0, ramp := none, safe := none, profile := none, pendingCopy := none
             limited := false, limitedSamples := 0, dac := 0 }
    ovl := { slots := Vector.replicate 8 .off }
    pls := Pls.empty
    seq := { state := .idle, pointer := 0, ringStart := 0, image := none, loop := none, progress := 0
             suspendLatch := false, out0 := false, out1 := false, in0 := false, in1 := false
             faultCause := .none, tally := { cycles := 0, lrms := none }, awaitOpen := false
             retest := false, markerLimit := false }
    jnt := { gate := .idle, tag := 0, mask := 0, timeout := 0, entry := 0, ownJoin := false
             withdrawRef := none, angleTest := false }
    lnk := { lineIdle := false, recessive := 0
             queue := [{ order := 0, item := .frame 15 (.status Summary.atReset) }], nextOrder := 1
             shifter := none, assembling := false, ownAborted := false
             latch := { tick := 0, thetaC := 0, fEff := 0, captured := false }, checkErrors := 0
             collisions := 0, rxCheck := false, txDrop := false, markReplaced := false, markStale := false }
    ptb := { peers := (Vector.replicate 8 PeerRecord.absent).set 0 PeerRecord.own }
    lck := { state := .alone, streak := 0, clampHit := false, waiting := none }
    fbm := { sumSquares := 0, samples := 0, peakV := 0, peakI := 0, lastLrms := 0 }
    ftu := { phi := 1024, limit := 24000, tripCycles := 0, stepPolicy := none, streak := 0
             foldedCycles := 0, tripCause := none, folded := false, tripDue := false }
    freeCount := 0
    pending := [] }

end Sys2Proof.Machine
end

