-- ==== Sys2Proof/Machine/Arith.lean ====
section
/-! DEFINITION. The arithmetic the rules name: the operations of R1 on exact integers. -/

namespace Sys2Proof.Machine

/-- floor: a / b toward −∞, for a positive divisor (R1). -/
def floorDiv (a b : Int) : Int := a / b

/-- trunc: a / b toward zero (R1). -/
def truncDiv (a b : Int) : Int := Int.tdiv a b

/-- round: a / b to the nearest integer with ties away from zero, for a non-negative quotient (R1). -/
def roundDiv (a b : Nat) : Nat := (2 * a + b) / (2 * b)

/-- The Q15 product of a and b: floor((a × b + 16,384) / 32,768) (R1). -/
def q15 (a b : Int) : Int := floorDiv (a * b + 16384) 32768

/-- Clamped to ±m: a value above m becomes m and a value below −m becomes −m (R1). -/
def clampAbs (m x : Int) : Int := if x > m then m else if x < -m then -m else x

/-- Stored within lo..hi: a value below becomes lo and a value above becomes hi (R62, R162). -/
def clampRange (lo hi x : Nat) : Nat := max lo (min hi x)

/-- A saturating count: it holds at its maximum rather than wrapping (R1). -/
def satAdd (top a b : Nat) : Nat := min top (a + b)

/-- The value of a ramp at index k of R: start + trunc((target − start) × k / R) (R9, R22, R23). -/
def rampValue (start target k r : Nat) : Nat :=
  (start + truncDiv (((target : Int) - start) * k) r).toNat

/-- The increment of a frequency in cHz: round(f × 2^32 / 2,560,000) (R7, R37). -/
def incrementOf (f : Nat) : Nat := roundDiv (f * 2 ^ 32) 2560000

/-- Sets of station numbers: bit n is station n (R116). -/
def maskHas (m : Mask) (n : Station) : Bool := m.getLsbD n.toNat

/-- The eight station numbers, ascending. -/
def stations : List Station := [0, 1, 2, 3, 4, 5, 6, 7]

/-- The eight overlay slot numbers, ascending: slot 0 has the highest priority (R45). -/
def overlayIndices : List OverlayIndex := [0, 1, 2, 3, 4, 5, 6, 7]

end Sys2Proof.Machine
end

