-- ==== Sys2Proof/Machine/Queue.lean ====
section
/-! DEFINITION. LNK's transmit queue and shifter (6.5, 6.6): offering, displacement, the return of an
aborted frame, removal, and the choice of the frame to start. The queue is held in the order it goes out. -/

namespace Sys2Proof.Machine

/-- The class of a frame by its content: URGENT 0, TIMING 1, COORD 2, SERVICE 3 (R97, R116). -/
def Payload.cls : Payload → Nat
  | .trip _ _ => 0
  | .withdraw _ _ => 0
  | .mark _ => 1
  | .join _ _ => 2
  | .status _ => 2
  | .result _ _ _ => 2
  | .answer _ _ _ => 3
  | .stepCopy _ _ => 3

/-- The class of a queue entry (R105). -/
def TxEntry.cls (e : TxEntry) : Nat :=
  match e.item with
  | .mark _ => 1
  | .frame _ p => p.cls

/-- Whether an entry is a MARK (R107). -/
def TxEntry.isMark (e : TxEntry) : Bool :=
  match e.item with
  | .mark _ => true
  | .frame _ _ => false

/-- An offered frame enters after every entry of its class (R106). -/
def txInsert : List TxEntry → TxEntry → List TxEntry
  | [], e => [e]
  | x :: xs, e => if x.cls ≤ e.cls then x :: txInsert xs e else e :: x :: xs

/-- A returning frame enters before every entry of its class (R108). -/
def txReinsert : List TxEntry → TxEntry → List TxEntry
  | [], e => [e]
  | x :: xs, e => if x.cls < e.cls then x :: txReinsert xs e else e :: x :: xs

/-- The numerically greatest class present among the entries (R106). -/
def greatestClass (q : List TxEntry) : Nat := q.foldl (fun m e => max m e.cls) 0

/-- The queue without the newest entry of a class, which stands last of its class (R106). -/
def dropNewest (q : List TxEntry) (c : Nat) : List TxEntry :=
  (q.reverse.eraseP fun e => e.cls = c).reverse

/-- A frame enters the queue by `place`, displaces a less urgent entry of a full queue, or is lost; a
loss sets TX_DROP (R106, R108). -/
def Lnk.enter (l : Lnk) (place : List TxEntry → TxEntry → List TxEntry) (e : TxEntry) : Lnk :=
  if l.queue.length < 8 then { l with queue := place l.queue e }
  else if greatestClass l.queue > e.cls then
    { l with queue := place (dropNewest l.queue (greatestClass l.queue)) e, txDrop := true }
  else { l with txDrop := true }

/-- A block offers a frame: a MARK replaces a queued MARK (R107), and every other frame enters by R106. -/
def Lnk.offer (l : Lnk) (item : TxItem) : Lnk :=
  let e : TxEntry := { order := l.nextOrder, item := item }
  let l := { l with nextOrder := l.nextOrder + 1 }
  if e.isMark && l.queue.any TxEntry.isMark then
    { l with queue := l.queue.map fun x => if x.isMark then e else x, markReplaced := true }
  else l.enter txInsert e

/-- An aborted frame returns from the shifter (R108). -/
def Lnk.giveBack (l : Lnk) : Lnk :=
  match l.shifter with
  | none => l
  | some x =>
    let l := { l with shifter := none }
    if x.entry.isMark && l.queue.any TxEntry.isMark then { l with markReplaced := true }
    else if x.discard then l
    else l.enter txReinsert x.entry

/-- JNT's request to remove its frames with some content: from the queue at once, and marked for discard
in the shifter (R109). -/
def Lnk.remove (l : Lnk) (p : Payload → Bool) : Lnk :=
  { l with
    queue := l.queue.filter fun e => match e.item with
      | .mark _ => true
      | .frame _ c => !p c
    shifter := l.shifter.map fun x => if p x.payload then { x with discard := true } else x }

/-- Whether a frame is a JOIN for a tag (R109). -/
def Payload.isJoinFor (t : Tag) : Payload → Bool
  | .join tag _ => tag = t
  | _ => false

/-- Whether a frame is a WITHDRAW for a tag (R109). -/
def Payload.isWithdrawFor (t : Tag) : Payload → Bool
  | .withdraw tag _ => tag = t
  | _ => false

/-- Whether a frame is the WITHDRAW of a tag with a given reason (R131). -/
def Payload.isWithdraw (t : Tag) (r : WithdrawReason) : Payload → Bool
  | .withdraw tag reason => tag = t && reason = r
  | _ => false

/-- The age of a mark instant at a tick (R110). -/
def markAge (now instant : Tick) : Nat := (now - instant).toNat

/-- The queue after the stale MARKs at its head have been discarded, and whether one was (R97, R110). -/
def dropStale (now : Tick) : List TxEntry → List TxEntry × Bool
  | [] => ([], false)
  | e :: rest =>
    match e.item with
    | .mark i => if markAge now i > 65535 then ((dropStale now rest).1, true) else (e :: rest, false)
    | .frame _ _ => (e :: rest, false)

end Sys2Proof.Machine
end

