-- ==== Sys2Proof/Machine/Store.lean ====
section
/-! DEFINITION. The Plan Store's and the Peer Table's named reads and writes, and the merge of a pass into
a slot's outcome (4.3). -/

namespace Sys2Proof.Machine

/-- The record of a slot as stored (R51). -/
def Pls.slot (p : Pls) (i : Slot) : StepRecord := p.ring[i.toNat]'(i.isLt)

/-- A slot's whole record replaced (R51). -/
def Pls.setSlot (p : Pls) (i : Slot) (r : StepRecord) : Pls :=
  { p with ring := p.ring.set i.toNat r i.isLt }

/-- A profile's stored list (R58). -/
def Pls.profile (p : Pls) (i : ProfileIndex) : List ProfileEntry := p.profiles[i.toNat]'(i.isLt)

/-- A profile's stored list replaced (R58). -/
def Pls.setProfile (p : Pls) (i : ProfileIndex) (l : List ProfileEntry) : Pls :=
  { p with profiles := p.profiles.set i.toNat l i.isLt }

/-- The record of a station (R117). -/
def Ptb.peer (p : Ptb) (n : Station) : PeerRecord := p.peers[n.toNat]'(n.isLt)

/-- The record of a station replaced. -/
def Ptb.setPeer (p : Ptb) (n : Station) (r : PeerRecord) : Ptb :=
  { peers := p.peers.set n.toNat r n.isLt }

/-- The measures of one pass of a step (R80). -/
structure Pass where
  cycles : Nat
  lrms : Option LrmsRange
  limited : Nat
  folded : Nat
  deriving DecidableEq, Repr

/-- A pass that never started: every count 0 and no Lrms (R135). -/
def Pass.none : Pass := { cycles := 0, lrms := .none, limited := 0, folded := 0 }

/-- Lowest and highest of two ranges, a side that is absent being passed over (R57). -/
def mergeRange : Option LrmsRange → Option LrmsRange → Option LrmsRange
  | none, b => b
  | a, none => a
  | some a, some b => some { lowest := min a.lowest b.lowest, highest := max a.highest b.highest }

/-- The slot's outcome part after a pass: created with `passes` 1, or merged (R56, R57). -/
def mergeOutcome (old : Option StepOutcome) (reason : EndReason) (p : Pass) : StepOutcome :=
  match old with
  | none =>
    { endReason := reason, passes := 1, cyclesMeasured := satAdd 65535 0 p.cycles, lrms := p.lrms
      limitedSamples := satAdd 65535 0 p.limited, foldedCycles := satAdd 255 0 p.folded }
  | some o =>
    { endReason := reason, passes := satAdd 255 o.passes 1
      cyclesMeasured := satAdd 65535 o.cyclesMeasured p.cycles, lrms := mergeRange o.lrms p.lrms
      limitedSamples := satAdd 65535 o.limitedSamples p.limited
      foldedCycles := satAdd 255 o.foldedCycles p.folded }

/-- The tally after a counted cycle (R145). -/
def Tally.count (t : Tally) (lrms : Nat) : Tally :=
  { cycles := satAdd 65535 t.cycles 1
    lrms := mergeRange t.lrms (some { lowest := lrms, highest := lrms }) }

/-- The record with `live` and the outcome part of a write-back; every other part keeps its value (R57). -/
def StepRecord.written (r : StepRecord) (live : Bool) (reason : EndReason) (p : Pass) : StepRecord :=
  { r with live := live, outcome := some (mergeOutcome r.outcome reason p) }

end Sys2Proof.Machine
end

