-- ==== Sys2Proof/Machine/Synthesis.lean ====
section
/-! DEFINITION. The computation of one output code (chapter 2) and the overlay slots' part in it
(chapter 3): amplitude, fundamental, harmonics, additive overlays, the replacing stage, the clip, and the
level of a sample. -/

namespace Sys2Proof.Machine

/-! ### Overlay slots -/

/-- The kind of a slot (R36). -/
def OverlaySlot.kind : OverlaySlot → OverlayKind
  | .off => .off
  | .tone _ _ _ _ => .tone
  | .offset _ => .offset
  | .notch _ _ _ => .notch
  | .flattop _ _ _ => .flattop
  | .force _ _ _ => .force

/-- An overlay slot by its number. -/
def Ovl.slot (o : Ovl) (i : OverlayIndex) : OverlaySlot := o.slots[i.toNat]'(i.isLt)

/-- The slots with one slot's record replaced. -/
def Ovl.setSlot (o : Ovl) (i : OverlayIndex) (x : OverlaySlot) : Ovl :=
  { slots := o.slots.set i.toNat x i.isLt }

/-- Every slot OFF (R49, R50). -/
def Ovl.allOff : Ovl := { slots := Vector.replicate 8 .off }

/-- An ARM entry: the slot takes the entry's kind and parameters; a TONE re-armed over a TONE keeps its
slot phase, and any other armed TONE starts at slot phase 0 (R37, R39). -/
def armSlot (old : OverlaySlot) (a : OverlayArm) : OverlaySlot :=
  match a with
  | .tone f b =>
    let phase := match old with
      | .tone _ _ _ p => p
      | _ => 0
    .tone f (BitVec.ofNat 32 (incrementOf f.toNat)) b phase
  | .offset c => .offset c
  | .notch d w0 w1 => .notch d w0 w1
  | .flattop b w0 w1 => .flattop b w0 w1
  | .force c w0 w1 => .force c w0 w1

/-- One overlay-change entry: DISARM sets the slot OFF, ARM arms it (R39, R40). -/
def Ovl.apply (o : Ovl) (e : OverlayChange) : Ovl :=
  o.setSlot e.slot (match e.arm with
    | none => .off
    | some a => armSlot (o.slot e.slot) a)

/-- A step's overlay-change list, entry after entry in list order (R38). -/
def Ovl.applyAll (o : Ovl) (l : List OverlayChange) : Ovl := l.foldl Ovl.apply o

/-- The advance of one slot's phase on a sample event: a TONE by its increment (R41). -/
def OverlaySlot.advance : OverlaySlot → OverlaySlot
  | .tone f inc b p => .tone f inc b (p + inc)
  | x => x

/-- The tone advance of a sample event (R41). -/
def Ovl.advance (o : Ovl) : Ovl := { slots := Vector.ofFn fun i => (o.slots[i.val]).advance }

/-- The additive term of a slot: a TONE's tone scaled by P_nom and Φ (R42), an OFFSET's code (R43). -/
def OverlaySlot.additive (pNom phi : Nat) : OverlaySlot → Int
  | .tone _ _ b p => q15 (sine p) (pNom * b.toNat * phi / 10240000 : Nat)
  | .offset c => c.toInt
  | _ => 0

/-- Whether the window [w0, w1) contains the angle a (R44). -/
def windowHas (w0 w1 a : Angle) : Bool :=
  if w0 = w1 then true
  else if w0.toNat < w1.toNat then w0.toNat ≤ a.toNat && a.toNat < w1.toNat
  else w0.toNat ≤ a.toNat || a.toNat < w1.toNat

/-- The window of a replacing slot; a slot of another kind has none (R36, R45). -/
def OverlaySlot.window : OverlaySlot → Option (Angle × Angle)
  | .notch _ w0 w1 => some (w0, w1)
  | .flattop _ w0 w1 => some (w0, w1)
  | .force _ w0 w1 => some (w0, w1)
  | _ => none

/-- Whether the slot is a replacing slot whose window contains the angle (R45). -/
def OverlaySlot.actsAt (x : OverlaySlot) (a : Angle) : Bool :=
  match x.window with
  | some (w0, w1) => windowHas w0 w1 a
  | none => false

/-- The acting replacing slot of a sample: the lowest-numbered whose window contains the angle (R45). -/
def Ovl.acting (o : Ovl) (a : Angle) : Option OverlaySlot :=
  (overlayIndices.map o.slot).find? (·.actsAt a)

/-- How the acting slot forms Σ′ from Σ: NOTCH (R46), FLATTOP (R47), FORCE (R48). -/
def OverlaySlot.replace (pNom : Nat) (sum : Int) : OverlaySlot → Int
  | .notch d _ _ => truncDiv (sum * d.toNat) 10000
  | .flattop b _ _ => clampAbs (pNom * b.toNat / 10000 : Nat) sum
  | .force c _ _ => c.toInt
  | _ => sum

/-! ### The sum and the clip -/

/-- The amplitude A = floor(P_nom × L × Φ / 10,240,000) (R24). -/
def amplitude (pNom level phi : Nat) : Nat := pNom * level * phi / 10240000

/-- The fundamental term T1, the Q15 product of S(θ) and A (R25). -/
def fundamental (theta : Phase) (a : Nat) : Int := q15 (sine theta) a

/-- A profile entry's term: phase n × θ + φ × 65,536, amplitude floor((A × h + 500) / 1,000) (R27). -/
def harmonic (theta : Phase) (a : Nat) (e : ProfileEntry) : Int :=
  q15 (sine (BitVec.ofNat 32 (e.order.toNat * theta.toNat + e.phase.toNat * 65536)))
    ((a * e.amplitude.toNat + 500) / 1000 : Nat)

/-- Σ: the fundamental, the harmonics of the profile in force and the additive overlays (R29). -/
def sigma (theta : Phase) (a : Nat) (profile : List ProfileEntry) (o : Ovl) (pNom phi : Nat) : Int :=
  fundamental theta a + (profile.map (harmonic theta a)).sum
    + ((overlayIndices.map o.slot).map (OverlaySlot.additive pNom phi)).sum

/-- Σ′: Σ after the acting replacing slot, if one acts (R30, R45). -/
def sigmaReplaced (theta : Phase) (sum : Int) (o : Ovl) (pNom : Nat) : Int :=
  match o.acting (theta.extractLsb' 16 16) with
  | some x => x.replace pNom sum
  | none => sum

/-! ### The level of a sample -/

/-- A step's level at its start sample: L_start is the level in force, and the first value of the ramp is
the level of the start sample itself (R21). -/
def Syn.startLevel (y : Syn) (target r : Nat) : Syn :=
  if r = 0 then { y with level := target, ramp := none }
  else
    { y with
      level := rampValue y.level target 1 r
      ramp := some { start := y.level, target := target, length := r, index := 1 } }

/-- The level of a sample that is no step's level change: the safe ramp-down's value while it runs, the
level ramp's next value unless SEQ is FROZEN, and otherwise the level of the sample before (R20, R22, R23). -/
def Syn.levelStep (y : Syn) (frozen : Bool) : Syn :=
  match y.safe with
  | some g =>
    if g.index ≥ g.length then y
    else
      { y with
        level := rampValue g.start 0 (g.index + 1) g.length
        safe := some { g with index := g.index + 1 } }
  | none =>
    match y.ramp with
    | none => y
    | some r =>
      if frozen || r.index ≥ r.length then y
      else
        { y with
          level := rampValue r.start r.target (r.index + 1) r.length
          ramp := some { r with index := r.index + 1 } }

/-- The level ramp's index has reached R (R22). -/
def Syn.rampDone (y : Syn) : Bool :=
  match y.ramp with
  | none => false
  | some r => r.index ≥ r.length

/-- The D_safe-th sample of the safe ramp-down has been computed (R33). -/
def Syn.safeDone (y : Syn) : Bool :=
  match y.out, y.safe with
  | .falling, some g => g.index ≥ g.length
  | _, _ => false

/-- The output leaves LIVE for FALLING: the safe ramp-down replaces any level ramp, from the level of the
latest sample and over the D_safe now in force (R23, R33). -/
def Syn.fall (y : Syn) (dSafe : Nat) : Syn :=
  { y with out := .falling, ramp := none, safe := some { start := y.level, length := dSafe, index := 0 } }

/-- The output becomes DARK: L = 0 and no ramp in progress (R33). -/
def Syn.darken (y : Syn) : Syn := { y with out := .dark, level := 0, ramp := none, safe := none }

/-- The clip stage: DARK presents 0 and makes no clamp test; otherwise the code is Σ′ clamped to ±clip,
and a sample with |Σ′| above clip sets LIMITED and is counted to the step in effect (R31, R32). -/
def Syn.present (y : Syn) (value : Int) (clip : Nat) (inEffect : Bool) : Syn :=
  if y.out = .dark then { y with dac := 0 }
  else
    let beyond := value.natAbs > clip
    { y with
      dac := clampAbs clip value
      limited := y.limited || beyond
      limitedSamples := if beyond && inEffect then satAdd 65535 y.limitedSamples 1 else y.limitedSamples }

end Sys2Proof.Machine
end

