-- ==== Sys2Proof/Machine/Timebase.lean ====
section
/-! DEFINITION. The Cycle Timebase (chapter 1): the advance of a sample event, the two wraps, the frequency
ramp, the lock correction as CTB holds it, the common phase between samples, and phase capture. -/

namespace Sys2Proof.Machine

/-- The effective increment in force for the next advance, F + C (R11). -/
def Ctb.fEff (c : Ctb) : Nat := (c.f + c.c).toNat

/-- The common phase of the latest sample or capture, θ − δ (0.5.4). -/
def Ctb.thetaC (c : Ctb) : Phase := c.theta - c.delta

/-- The common phase at the present tick, which is `divider` ticks after the latest sample event (R13). -/
def Ctb.thetaCNow (c : Ctb) : Phase := c.thetaC + BitVec.ofNat 32 (c.divider * c.fEff / 1600)

/-- A change of F, after which CTB clamps the C it holds against the new F (R10). -/
def Ctb.setF (c : Ctb) (f : Nat) : Ctb := { c with f := f, c := clampAbs (f >>> 10 : Nat) c.c }

/-- LCK's write of C, clamped against the F then in force (R10). -/
def Ctb.writeC (c : Ctb) (v : Int) : Ctb := { c with c := clampAbs (c.f >>> 10 : Nat) v }

/-- Crystal ticks pass: the tick counter and the sample divider advance together, and the tick on which
the divider would reach 1,600 is left to the sample event (R2, R3). -/
def Ctb.passTicks (c : Ctb) (elapsed : Nat) : Ctb :=
  let d := min 1599 (c.divider + elapsed)
  { c with tick := c.tick + BitVec.ofNat 32 (d - c.divider), divider := d }

/-- What CTB hands the other blocks on a sample event: the new own phase before any capture, the base and
effective increments used for this advance, the mark instant, and the two wrap indications (R3, R5, R12). -/
structure Advance where
  theta : Phase
  fBase : Nat
  fEff : Nat
  markInstant : Tick
  ownWrap : Bool
  commonWrap : Bool
  deriving DecidableEq, Repr

/-- The mark instant of a common wrap: its sample tick less floor(θc_after × 1,600 / F_eff) (R12). -/
def markInstantOf (sampleTick : Tick) (thetaC : Phase) (fEff : Nat) : Tick :=
  sampleTick - BitVec.ofNat 32 (thetaC.toNat * 1600 / fEff)

/-- What CTB hands on for the next sample event (R3–R5). -/
def Ctb.nextAdvance (c : Ctb) : Advance :=
  let theta := c.theta + BitVec.ofNat 32 c.fEff
  let tick := c.tick + BitVec.ofNat 32 (1600 - c.divider)
  { theta := theta, fBase := c.f, fEff := c.fEff
    markInstant := markInstantOf tick (theta - c.delta) c.fEff
    ownWrap := theta.toNat < c.theta.toNat
    commonWrap := (theta - c.delta).toNat < (c.theta - c.delta).toNat }

/-- CTB's own part of a sample event: the divider returns to 0 on the 1,600th tick, θ advances, and the
cycle counters count their wraps (R3, R4, R6). -/
def Ctb.advance (c : Ctb) : Ctb :=
  { c with
    tick := c.tick + BitVec.ofNat 32 (1600 - c.divider), divider := 0, theta := c.nextAdvance.theta
    ownCycles := if c.nextAdvance.ownWrap then c.ownCycles + 1 else c.ownCycles
    commonCycles := if c.nextAdvance.commonWrap then c.commonCycles + 1 else c.commonCycles }

/-- A step's frequency at its start sample; F_start is the base increment used for the start sample's own
advance (R8). -/
def Ctb.startFrequency (c : Ctb) (fBase frequency r : Nat) : Ctb :=
  let target := incrementOf frequency
  if r = 0 then { c.setF target with ramp := none }
  else
    { c.setF (rampValue fBase target 1 r) with
      ramp := some { start := fBase, target := target, length := r, index := 1 } }

/-- The frequency ramp's progress on a sample event, none while SEQ is FROZEN (R9). -/
def Ctb.rampStep (c : Ctb) (frozen : Bool) : Ctb :=
  match c.ramp with
  | none => c
  | some r =>
    if frozen || r.index ≥ r.length then c
    else
      { c.setF (rampValue r.start r.target (r.index + 1) r.length) with
        ramp := some { r with index := r.index + 1 } }

/-- The frequency ramp's index has reached R (R9). -/
def Ctb.rampDone (c : Ctb) : Bool :=
  match c.ramp with
  | none => false
  | some r => r.index ≥ r.length

/-- A phase capture: θ is moved back by the error, and nothing else changes in CTB (R14). -/
def Ctb.capture (c : Ctb) (e : Int) : Ctb := { c with theta := c.theta - BitVec.ofInt 32 e }

end Sys2Proof.Machine
end

