-- ==== Sys2Proof/Machine/Flags.lean ====
section
/-! DEFINITION. What the station reports and tests about itself: its strapped identity, the conditions the
rules name, the state summary of a STATUS (R113), and the sticky flags (R88, R114). -/

namespace Sys2Proof.Machine

/-- The station's strapped number (R160). -/
def State.own (s : State) : Station := s.stc.straps.number

/-- The strapped station count (R160). -/
def State.count (s : State) : Nat := s.stc.straps.count

/-- The start sequence has ended and no reset is asserted (R158). -/
def State.running (s : State) : Bool := s.stc.phase = .running

/-- An expected peer other than the station itself: its number is below the station count (0.5.8). -/
def State.expectedPeer (s : State) (n : Station) : Bool := n.toNat < s.count && n ≠ s.own

/-- SEQ holds a current slot (R69). -/
def holdsSlot : SeqState → Bool
  | .armed | .gathering | .active | .frozen | .held => true
  | .idle | .suspended | .tripped | .faulted => false

/-- A step is in effect: SEQ is ACTIVE or FROZEN with a step not yet written back (R77). -/
def State.inEffect (s : State) : Bool :=
  (s.seq.state = .active || s.seq.state = .frozen) && s.seq.image.isSome

/-- The trip policy in force: the step's while a step is in effect, and otherwise the SETUP default (R148). -/
def State.policyInForce (s : State) : TripPolicy :=
  if s.inEffect then s.ftu.stepPolicy.getD s.stc.setup.policy else s.stc.setup.policy

/-- A record shows the tripped flag or the state LOST (R89). -/
def PeerRecord.troubled (r : PeerRecord) : Bool := r.tripped || r.state = .lost

/-- Some record other than the station's own shows the tripped flag or the state LOST (R89). -/
def State.troubled (s : State) : Bool :=
  stations.any fun n => n ≠ s.own && (s.ptb.peer n).troubled

/-- The state summary as it stands, with a cause (R113). -/
def State.summary (s : State) (cause : StatusCause) : Summary :=
  { cause := cause, seq := s.seq.state, out := s.syn.out, lock := s.lck.state
    faultCause := s.seq.faultCause, startCause := s.stc.startCause
    pointer := s.seq.pointer, ringStart := s.seq.ringStart, loop := s.seq.loop
    holdsSlot := Machine.holdsSlot s.seq.state, suspendLatch := s.seq.suspendLatch
    limited := s.syn.limited, folded := s.ftu.folded, clampHit := s.lck.clampHit
    rxCheck := s.lnk.rxCheck, txDrop := s.lnk.txDrop, markReplaced := s.lnk.markReplaced
    markStale := s.lnk.markStale, energized := s.stc.energized
    out0 := s.seq.out0, out1 := s.seq.out1, in0 := s.seq.in0, in1 := s.seq.in1
    level := s.syn.level, profile := s.syn.profile, pendingHeld := s.syn.pendingCopy.isSome
    overlayKinds := Vector.ofFn fun i => (s.ovl.slots[i.val]).kind
    phi := s.ftu.phi, tripCause := s.ftu.tripCause, ownCycles := s.ctb.ownCycles
    lastLrms := s.fbm.lastLrms, checkErrors := s.lnk.checkErrors, collisions := s.lnk.collisions
    peers := Vector.ofFn fun i => ((s.ptb.peers[i.val]).state, (s.ptb.peers[i.val]).tripped)
    streak := s.lck.streak }

/-- A block offers a frame to LNK (R106). -/
def State.offer (s : State) (item : TxItem) : State := s.setLnk (s.lnk.offer item)

/-- A frame addressed to ALL (R111). -/
def State.offerAll (s : State) (p : Payload) : State := s.offer (.frame 15 p)

/-- A STATUS with a cause, addressed to ALL, carrying the state as it stands (R69, R111). -/
def State.offerStatus (s : State) (cause : StatusCause) : State :=
  s.offerAll (.status (s.summary cause))

/-- LNK's four sticky flags cleared (R114). -/
def Lnk.clearFlags (l : Lnk) : Lnk :=
  { l with rxCheck := false, txDrop := false, markReplaced := false, markStale := false }

/-- Every sticky flag cleared: LIMITED, FOLDED, CLAMP_HIT and the link flags (R88). -/
def State.clearSticky (s : State) : State :=
  (((s.setSyn { s.syn with limited := false }).setFtu { s.ftu with folded := false }).setLck
    { s.lck with clampHit := false }).setLnk s.lnk.clearFlags

end Sys2Proof.Machine
end

