-- ==== Sys2Proof/Machine/Ops.lean ====
section
/-! DEFINITION. The operations several commands share: SEQ's taking, ending and leaving of steps, the Joint
Gate's withdrawal and abandonment, the fall of the output, the station's trip, a fault, and what follows a
change of a peer record. Each offers its frames in the order its rule gives. -/

namespace Sys2Proof.Machine

/-! ### Orders the manual leaves open -/

/-- One more order has been drawn from the free value. -/
def State.countOrder (s : State) : State := s.setFreeCount (s.freeCount + 1)

/-- Two reactions to one event, in the order the free value gives. -/
def State.eitherOrder (s : State) (f g : State → State) : State :=
  if Config.freeOrder s.freeCount then g (f s.countOrder) else f (g s.countOrder)

/-! ### The slot after a step, and write-back -/

/-- The next slot after a step: the ring start when its `wrap` is yes, and (pointer + 1) modulo 256
otherwise (R79). -/
def Seq.nextSlot (q : Seq) (r : StepRecord) : Slot := if r.wrap then q.ringStart else q.pointer + 1

/-- The pointer moved to the next slot after a step. -/
def State.pointToNext (s : State) (r : StepRecord) : State :=
  s.setSeq { s.seq with pointer := s.seq.nextSlot r }

/-- The measures counted to the step in effect (R80). -/
def State.passMeasures (s : State) : Pass :=
  { cycles := s.seq.tally.cycles, lrms := s.seq.tally.lrms, limited := s.syn.limitedSamples
    folded := s.ftu.foldedCycles }

/-- SEQ writes the step it holds back into its slot, and offers a RESULT with the merged outcome when the
step's `notify` is yes (R57, R82). -/
def State.writeBack (s : State) (r : StepRecord) (reason : EndReason) (live : Bool) (p : Pass) : State :=
  let t := s.setPls (s.pls.setSlot s.seq.pointer ((s.pls.slot s.seq.pointer).written live reason p))
  if r.notify then
    t.offerAll (.result s.seq.pointer live (mergeOutcome (s.pls.slot s.seq.pointer).outcome reason p))
  else t

/-! ### The Joint Gate -/

/-- JNT asks LNK to remove its JOIN for the gathering tag (R109). -/
def State.removeJoin (s : State) : State := s.setLnk (s.lnk.remove (Payload.isJoinFor s.jnt.tag))

/-- JNT offers WITHDRAW with the gathering tag (R133, R136, R137). -/
def State.offerWithdraw (s : State) (reason : WithdrawReason) : State :=
  s.offerAll (.withdraw s.jnt.tag reason)

/-- The gate withdraws on account of its peers or its timeout: it removes its JOIN, offers WITHDRAW,
records the reason and goes to WITHDRAWING (R133, R136). -/
def State.withdraw (s : State) (reason : WithdrawReason) : State :=
  let t := s.removeJoin.offerWithdraw reason
  t.setJnt { t.jnt with gate := .withdrawing, withdrawRef := some reason }

/-- SEQ leaves GATHERING on the station's own account: the gate, unless IDLE, removes its JOIN, offers
WITHDRAW and returns to IDLE (R137). -/
def State.leaveGathering (s : State) (reason : WithdrawReason) : State :=
  if s.jnt.gate = .idle then s
  else
    let t := s.removeJoin.offerWithdraw reason
    t.setJnt { t.jnt with gate := .idle }

/-- Some station of the mask other than the station itself satisfies a test of its record. -/
def State.maskedPeer (s : State) (m : Mask) (p : PeerRecord → Bool) : Bool :=
  stations.any fun n => n ≠ s.own && maskHas m n && p (s.ptb.peer n)

/-- JNT takes up a joint step: the gate opens, and it offers a JOIN, or a WITHDRAW when the record of a
station of the mask already shows the tripped flag or LOST (R129). -/
def State.openGate (s : State) (j : JointPart) : State :=
  let t := s.setJnt
    { gate := .opened, tag := j.tag, mask := j.mask, timeout := j.timeout.toNat, entry := s.ctb.commonCycles
      ownJoin := false, withdrawRef := none, angleTest := false }
  let stop (reason : WithdrawReason) :=
    let u := t.offerWithdraw reason
    u.setJnt { u.jnt with gate := .withdrawing, withdrawRef := some reason }
  if s.maskedPeer j.mask (·.tripped) then stop .peerTrip
  else if s.maskedPeer j.mask (·.state = .lost) then stop .peerLost
  else t.offerAll (.join j.tag j.mask)

/-- SEQ enters GATHERING: STATUS with cause TAKEN, then JNT's JOIN or WITHDRAW (R75, R129). -/
def State.enterGathering (s : State) (j : JointPart) : State :=
  ((s.setSeq { s.seq with state := .gathering }).offerStatus .taken).openGate j

/-! ### Ends of a step other than by its duration -/

/-- The output falls: from LIVE it enters FALLING, with the safe ramp-down, every overlay OFF and any
frequency ramp ended; FALLING and DARK are left so (R9, R23, R33, R49). -/
def State.enterFalling (s : State) : State :=
  if s.syn.out = .live then
    ((s.setSyn (s.syn.fall s.stc.setup.dSafe)).setOvl Ovl.allOff).setCtb { s.ctb with ramp := none }
  else s

/-- SEQ lets go of whatever it holds, short of its duration: a step in effect is written back and the
pointer moves on; a HELD step moves the pointer on; a GATHERING step withdraws and keeps the pointer; every
other state keeps the pointer (R87, R91, R92). -/
def State.dropStep (s : State) (reason : EndReason) (withdraw : WithdrawReason) : State :=
  match s.seq.state, s.seq.image with
  | .active, some r => (s.writeBack r reason false s.passMeasures).pointToNext r
  | .frozen, some r => (s.writeBack r reason false s.passMeasures).pointToNext r
  | .held, some r => s.pointToNext r
  | .gathering, _ => s.leaveGathering withdraw
  | _, _ => s

/-- SEQ comes to rest: any open loop closed, the latched SUSPEND and the step image cleared (R87, R91, R92). -/
def State.rest (s : State) (state : SeqState) : State :=
  s.setSeq
    { s.seq with
      state := state, loop := none, suspendLatch := false, image := none, awaitOpen := false
      retest := false, markerLimit := false }

/-- SEQ faults; a further fault while FAULTED is not recorded (R92). -/
def State.fault (s : State) (cause : FaultCause) : State :=
  if s.seq.state = .faulted then s
  else
    let t := ((s.dropStep .aborted .aborted).rest .faulted).enterFalling
    (t.setSeq { t.seq with faultCause := cause }).offerStatus .fault

/-- FTU trips the station: trip cause, TRIP frame, fall of the output, SEQ to TRIPPED; none is made in
TRIPPED or FAULTED (R91, R151, R153, R155). -/
def State.trip (s : State) (cause : TripCause) : State :=
  if s.seq.state = .tripped || s.seq.state = .faulted then s
  else
    let t := (s.setFtu { s.ftu with tripCause := some cause }).offerAll (.trip cause s.seq.pointer)
    ((t.enterFalling.dropStep .tripped .ownTrip).rest .tripped).offerStatus .trip

/-- The barrier is abandoned: JNT removes its frames for the tag, the step is written back WITHDRAWN, SEQ
is SUSPENDED at the next slot and the gate IDLE (R135). -/
def State.abandon (s : State) : State :=
  let t := s.setLnk ((s.lnk.remove (Payload.isJoinFor s.jnt.tag)).remove (Payload.isWithdrawFor s.jnt.tag))
  let u := match s.seq.image with
    | some r => (t.writeBack r .withdrawn false Pass.none).pointToNext r
    | none => t
  let v := (u.setSeq { u.seq with state := .suspended, image := none }).offerStatus .withdrawn
  v.setJnt { v.jnt with gate := .idle }

/-! ### Taking a step -/

/-- What a taking finds at its end (R70, R72, R73). -/
inductive WalkFound where
  | dry
  | step (r : StepRecord)
  | nested
  | limit
  deriving DecidableEq, Repr

/-- The end of a taking's walk: the pointer, the open loop, and what was found. -/
structure Walk where
  pointer : Slot
  loop : Option OpenLoop
  found : WalkFound
  deriving DecidableEq, Repr

/-- Where a LOOP_END that goes on sends the pointer (R72). -/
def afterLoopEnd (ring : Slot) (pointer : Slot) (r : StepRecord) : Slot :=
  if r.wrap then ring else pointer + 1

/-- The walk of a taking over at most `fuel` loop markers (R70–R73). -/
def walk (p : Pls) (ring : Slot) : (fuel : Nat) → (pointer : Slot) → (loop : Option OpenLoop) → Walk
  | 0, pointer, loop => { pointer := pointer, loop := loop, found := .limit }
  | fuel + 1, pointer, loop =>
    let r := p.slot pointer
    if r.live then
      match r.kind, loop with
      | .normal, _ => { pointer := pointer, loop := loop, found := .step r }
      | .loopBegin, none =>
        walk p ring fuel (pointer + 1) (some { start := pointer + 1, remaining := r.loopCount.toNat })
      | .loopBegin, some _ => { pointer := pointer, loop := loop, found := .nested }
      | .loopEnd, none => walk p ring fuel (afterLoopEnd ring pointer r) none
      | .loopEnd, some l =>
        if l.remaining = 0 then walk p ring fuel (afterLoopEnd ring pointer r) none
        else walk p ring fuel l.start (some { l with remaining := l.remaining - 1 })
    else { pointer := pointer, loop := loop, found := .dry }

/-- The `await` of a record; absent is none (R54). -/
def StepRecord.awaited (r : StepRecord) : Await := r.await.getD .none

/-- SEQ holds a step in ARMED; with no await its gate is open at once, and a joint step then enters
GATHERING on the same event (R69, R70, R74, R75). -/
def State.arm (s : State) (r : StepRecord) : State :=
  let t := s.setSeq { s.seq with state := .armed, image := some r, awaitOpen := r.awaited = .none }
  match r.joint with
  | some j => if r.awaited = .none then t.enterGathering j else t.offerStatus .taken
  | none => t.offerStatus .taken

/-- SEQ takes a step: one walk from the pointer, which ends at a step, at a dry end or at a fault; at the
1,024th marker the fault of R73 is due (R70, R71). -/
def State.takeStep (s : State) : State :=
  let w := walk s.pls s.seq.ringStart 1024 s.seq.pointer s.seq.loop
  let t := s.setSeq
    { s.seq with pointer := w.pointer, loop := w.loop, image := none, awaitOpen := false, retest := false }
  match w.found with
  | .dry => (t.setSeq { t.seq with state := .idle, loop := none }).offerStatus .dry
  | .step r => t.arm r
  | .nested => t.fault .nestedLoop
  | .limit => t.setSeq { t.seq with markerLimit := true }

/-- After a step that ended or was released: suspension when a SUSPEND is latched, and otherwise the next
step, in both cases from the next slot (R79 steps 4 and 5, R84). -/
def State.moveOn (s : State) (r : StepRecord) : State :=
  let t := s.pointToNext r
  if s.seq.suspendLatch then
    (t.setSeq { t.seq with state := .suspended, suspendLatch := false, image := none }).offerStatus .suspend
  else t.takeStep

/-! ### Peers -/

/-- Under HOLD a peer's trip or loss freezes an ACTIVE step (R89, R156). -/
def State.freeze (s : State) : State :=
  if s.seq.state = .active then (s.setSeq { s.seq with state := .frozen }).offerStatus .freeze else s

/-- SEQ leaves FROZEN when no record but its own shows the tripped flag or LOST (R89). -/
def State.thaw (s : State) : State :=
  if s.seq.state = .frozen && !s.troubled then
    (s.setSeq { s.seq with state := .active }).offerStatus .thaw
  else s

/-- SEQ is in a state in which FTU does nothing on a peer event: TRIPPED, FAULTED, or IDLE with the output
DARK (R154). -/
def State.peerEventExcluded (s : State) : Bool :=
  s.seq.state = .tripped || s.seq.state = .faulted || (s.seq.state = .idle && s.syn.out = .dark)

/-- FTU applies the policy in force to a peer's trip or loss (R154–R156). -/
def State.applyPolicy (s : State) (cause : TripCause) : State :=
  if s.peerEventExcluded then s
  else
    match s.policyInForce with
    | .follow => s.trip cause
    | .hold => s.freeze
    | .ignore => s

/-- JNT's reaction to a trip or loss of a station of its mask, while the gate is OPEN (R136). -/
def State.maskedTrouble (s : State) (n : Station) (reason : WithdrawReason) : State :=
  if s.jnt.gate = .opened && maskHas s.jnt.mask n && n ≠ s.own then s.withdraw reason else s

/-- FTU's and JNT's reactions to a peer's trip or loss. Where both act, in GATHERING under FOLLOW, the order
is open (R136, R155). -/
def State.peerTrouble (s : State) (n : Station) (cause : TripCause) (reason : WithdrawReason) : State :=
  if s.jnt.gate = .opened && maskHas s.jnt.mask n && !s.peerEventExcluded && s.policyInForce = .follow then
    s.eitherOrder (·.maskedTrouble n reason) (·.applyPolicy cause)
  else (s.maskedTrouble n reason).applyPolicy cause

/-- PTB stores a record, and hands a change of its state or tripped flag to SEQ, FTU and JNT (R121, R154). -/
def State.updatePeer (s : State) (n : Station) (r : PeerRecord) : State :=
  let old := s.ptb.peer n
  let t := s.setPtb (s.ptb.setPeer n r)
  if old.state = r.state && old.tripped = r.tripped then t
  else
    let u := t.thaw
    if n = s.own then u
    else if r.tripped && !old.tripped then u.peerTrouble n .followed .peerTrip
    else if r.state = .lost && old.state ≠ .lost then u.peerTrouble n .peerLost .peerLost
    else u

/-! ### Losses -/

/-- A station's record has reached the age at which it becomes LOST (R122). -/
def State.lossDue (s : State) (n : Station) : Bool :=
  s.expectedPeer n && (s.ptb.peer n).state = .present && (s.ptb.peer n).age ≥ 8

/-- PEER_LOST of one station, if it is due (R122). -/
def State.carryLoss (s : State) (n : Station) : State :=
  if s.lossDue n then s.updatePeer n { s.ptb.peer n with state := .lost } else s

/-- PEER_LOST of every station for which it is due. -/
def State.carryLosses (s : State) : State := stations.foldl State.carryLoss s

/-- Some loss is due. -/
def State.anyLossDue (s : State) : Bool := stations.any s.lossDue

end Sys2Proof.Machine
end

