-- ==== Sys2Proof/Machine/Lock.lean ====
section
/-! DEFINITION. The common wrap's work in PTB and LCK (chapter 7): ageing, lock evaluation, correction and
phase capture. -/

namespace Sys2Proof.Machine

/-- The ageing of one record on a common wrap; an ABSENT record is not aged. Being declared LOST is the
event PEER_LOST (R122). -/
def PeerRecord.aged (r : PeerRecord) : PeerRecord :=
  if r.state = .absent then r
  else { r with age := satAdd 255 r.age 1, fresh := r.fresh && satAdd 255 r.age 1 < 3 }

/-- PTB ages every record but the station's own (R122). -/
def Ptb.aged (p : Ptb) (own : Station) : Ptb :=
  { peers := Vector.ofFn fun i => if i.val = own.toNat then p.peers[i.val] else (p.peers[i.val]).aged }

/-- Every record but the station's own ceases to be fresh (R14). -/
def Ptb.unfresh (p : Ptb) (own : Station) : Ptb :=
  { peers := Vector.ofFn fun i =>
      if i.val = own.toNat then p.peers[i.val] else { p.peers[i.val] with fresh := false } }

/-- The fresh errors of the expected peers other than the station itself, in ascending station number (R123). -/
def State.freshErrors (s : State) : List (Station × Int) :=
  (stations.filter fun n => s.expectedPeer n && (s.ptb.peer n).fresh).map fun n => (n, (s.ptb.peer n).error)

/-- The gain shift g = 33 + the gain select (R160). -/
def State.gainShift (s : State) : Nat := 33 + s.stc.straps.gainSelect.toNat

/-- The correction before its clamp: −trunc(Σe × F / ((n + 1) × 2^g)) (R124). -/
def correction (errors : List Int) (fBase gain : Nat) : Int :=
  -truncDiv (errors.sum * fBase) ((errors.length + 1) * 2 ^ gain)

/-- The streak after an evaluation with at least one fresh error (R125). -/
def nextStreak (streak : Nat) (errors : List Int) : Nat :=
  if errors.all fun e => e.natAbs ≤ 2 ^ 22 then min 4 (streak + 1) else 0

/-- The lock state after an evaluation with at least one fresh error (R125). -/
def nextLock (lock : LockState) (streak : Nat) (errors : List Int) : LockState :=
  match lock with
  | .locked => if errors.any fun e => e.natAbs > 2 ^ 24 then .seeking else .locked
  | .alone => if streak = 4 then .locked else .seeking
  | .seeking => if streak = 4 then .locked else .seeking

/-- The capture test: the error to capture with, if the test is passed (R126). -/
def State.captureError (s : State) (lock : LockState) : Option Int :=
  if lock ≠ .locked && s.syn.out = .dark
      && (s.seq.state = .idle || s.seq.state = .suspended || s.seq.state = .tripped || s.seq.state = .faulted) then
    match s.freshErrors.find? fun p => p.1.toNat < s.own.toNat with
    | some (_, e) => if e.natAbs > 2 ^ 26 then some e else none
    | none => none
  else none

/-- The lock evaluation of a common wrap. `fBase` is the base increment used for the wrap sample's own
advance (R10, R123–R126). -/
def State.evaluateLock (s : State) (fBase : Nat) : State :=
  let errors := s.freshErrors.map (·.2)
  if errors.isEmpty then
    (s.setLck { s.lck with state := .alone, streak := 0 }).setCtb (s.ctb.writeC 0)
  else
    let raw := correction errors fBase s.gainShift
    let bound := fBase >>> 10
    let streak := nextStreak s.lck.streak errors
    let lock := nextLock s.lck.state streak errors
    match s.captureError lock with
    | some e =>
      (((s.setLck { s.lck with state := lock, streak := 0 }).setCtb ((s.ctb.capture e).writeC 0)).setPtb
        (s.ptb.unfresh s.own)).setLnk { s.lnk with latch := { s.lnk.latch with captured := true } }
    | none =>
      (s.setLck
        { s.lck with state := lock, streak := streak, clampHit := s.lck.clampHit || raw.natAbs > bound }).setCtb
        (s.ctb.writeC (clampAbs bound raw))

/-- The evaluation of a common wrap, once every loss of that wrap has been handed on: PTB is done with the records
before LCK evaluates (R122, R123). -/
def State.carryEvaluation (s : State) : State :=
  match s.lck.waiting with
  | some fBase =>
    if s.anyLossDue then s else (s.setLck { s.lck with waiting := none }).evaluateLock fBase
  | none => s

/-- A common wrap: CTB offers a MARK with its mark instant, PTB ages the records, LCK evaluates unless a loss is to
be handed on first, and a COMPLETE gate begins its start-angle test (R12, R122, R123, R132). -/
def State.commonWrap (s : State) (a : Advance) : State :=
  let t := s.offer (.mark a.markInstant)
  let u := ((t.setPtb (t.ptb.aged t.own)).setLck { t.lck with waiting := some a.fBase }).carryEvaluation
  if u.jnt.gate = .complete then u.setJnt { u.jnt with angleTest := true } else u

end Sys2Proof.Machine
end

