-- ==== Sys2Proof/Machine/Sample.lean ====
section
/-! DEFINITION. The sample event (R3): the parts listed for SAMPLE_EVENT in "What each step holds", in the order
CTB's advance, the common wrap, the own wrap's measurements, SEQ's work (the freeze test, the count of the cycle,
the start sample or the step's progress), the output code, and the feedback of the sample's own codes (DEDUCED,
unsafe, notes/assumptions/5.md and 6.md). Where an own trip meets a start, the opening of a gate or the end of a
step, or a loss meets SEQ's work, the order of the two is drawn (notes/assumptions/2.md). -/

namespace Sys2Proof.Machine

/-! ### The own wrap -/

/-- The greatest r of at most `bits` bits above `r`, within 0..32,768, with r² × N ≤ ΣV² (R141). -/
def rmsSearch (sumSquares samples : Nat) : (bits r : Nat) → Nat
  | 0, r => r
  | b + 1, r =>
    let r' := r + 2 ^ b
    rmsSearch sumSquares samples b (if r' ≤ 32768 && r' * r' * samples ≤ sumSquares then r' else r)

/-- The RMS code of a cycle: the greatest r in 0..32,768 with r² × N ≤ ΣV² (R141). -/
def rms (sumSquares samples : Nat) : Nat := rmsSearch sumSquares samples 16 0

/-- The level of the cycle an own wrap closes (R141), 65,535 when it is over-range (R142). -/
def Fbm.closedLrms (m : Fbm) (pNom : Nat) : Nat :=
  if m.peakV ≥ 32767 || m.peakI ≥ 32767 then 65535
  else min 65535 (rms m.sumSquares m.samples * 14142 / pNom)

/-- FBM closes the open cycle, sets the last-cycle Lrms and opens the next cycle (R140, R143). -/
def State.closeCycle (s : State) : State :=
  s.setFbm
    { sumSquares := 0, samples := 0, peakV := 0, peakI := 0, lastLrms := s.fbm.closedLrms s.stc.setup.pNom }

/-- The cycle that an own wrap closes is a folded cycle, by Φ as the cycle's last sample left it (R150). -/
def State.cycleFolded (s : State) : Bool := s.syn.out ≠ .dark && s.ftu.phi < 1024

/-- FTU tests the cycle an own wrap closes while the output is LIVE or FALLING; the own trip becomes due when a
folded cycle raises the streak to a non-zero `trip_cycles` in force (R150, R151). -/
def State.closeFold (s : State) : State :=
  if s.syn.out = .dark then s
  else if s.cycleFolded then
    let streak := satAdd 255 s.ftu.streak 1
    s.setFtu
      { s.ftu with
        folded := true, streak := streak
        tripDue := s.ftu.tripCycles ≠ 0 && streak ≥ s.ftu.tripCycles
          && s.seq.state ≠ .tripped && s.seq.state ≠ .faulted }
  else s.setFtu { s.ftu with streak := 0 }

/-- At an own wrap the pending profile copy is written into its profile (R28). -/
def State.applyPending (s : State) : State :=
  match s.syn.pendingCopy with
  | some (i, l) => (s.setPls (s.pls.setProfile i l)).setSyn { s.syn with pendingCopy := none }
  | none => s

/-- An own wrap: the cycle is closed, its fold tested, a pending profile copy applied and the marker inputs
latched (R28, R74, R140, R150). -/
def State.ownWrap (s : State) (x : SampleInputs) : State :=
  let t := s.closeCycle.closeFold.applyPending
  t.setSeq { t.seq with in0 := x.in0, in1 := x.in1 }

/-! ### The start sample and the step's progress -/

/-- SEQ and FTU count the cycle that an own wrap has closed to the step in effect (R144, R145, R150). -/
def State.countCycle (s : State) (a : Advance) : State :=
  if a.ownWrap && s.inEffect then
    (s.setSeq { s.seq with tally := s.seq.tally.count s.fbm.lastLrms }).setFtu
      { s.ftu with
        foldedCycles := if s.cycleFolded then satAdd 255 s.ftu.foldedCycles 1 else s.ftu.foldedCycles }
  else s

/-- On the sample after the start of a step under HOLD, the records are tested again (R89). -/
def State.freezeRetest (s : State) : State :=
  if s.seq.retest then
    let t := s.setSeq { s.seq with retest := false }
    if t.inEffect && t.troubled then t.freeze else t
  else s

/-- The start-angle test: θ reached or passed the angle on this sample's advance (R76). -/
def angleMet (angle : Option Angle) (a : Advance) : Bool :=
  match angle with
  | none => true
  | some α => (a.theta - BitVec.ofNat 32 (α.toNat * 65536)).toNat < a.fEff

/-- The step that starts on this sample, if one does: an ARMED step whose gates opened on an earlier event,
or a joint step on or after the first common wrap after completion (R70, R75, R76, R132). -/
def State.starting (s : State) (a : Advance) : Option StepRecord :=
  match s.seq.image with
  | none => none
  | some r =>
    let open' := match s.seq.state with
      | .armed => s.seq.awaitOpen && r.joint.isNone
      | .gathering => s.jnt.gate = .complete && s.jnt.angleTest
      | _ => false
    if open' && angleMet r.startAngle a then some r else none

/-- A marker output after a setting (R93). -/
def markerAfter (old : Bool) : MarkerSetting → Bool
  | .keep => old
  | .low => false
  | .high => true

/-- The protection settings FTU takes at a start sample (R148); the step's folded count becomes 0 (R150). -/
def State.startSettings (s : State) (r : StepRecord) : Ftu :=
  { s.ftu with
    limit := match r.currentLimit with
      | some l => l.toNat
      | none => s.stc.setup.limit
    stepPolicy := some (r.tripPolicy.getD s.stc.setup.policy)
    tripCycles := match r.tripCycles with
      | some n => n.toNat
      | none => s.ftu.tripCycles
    foldedCycles := 0 }

/-- SYN at a start sample: the level change, or the sample's level when the step has none; the profile
selection; and the limited-sample count at 0 (R21, R26, R32). -/
def Syn.startWith (y : Syn) (r : StepRecord) : Syn :=
  let y' := match r.level with
    | some l => y.startLevel l.toNat r.ramp.toNat
    | none => y.levelStep false
  { y' with profile := r.profile.getD y.profile, limitedSamples := 0 }

/-- CTB at a start sample: the frequency change, or the ramp's progress when the step has none (R8, R9). -/
def Ctb.startWith (c : Ctb) (r : StepRecord) (fBase : Nat) : Ctb :=
  match r.frequency with
  | some f => c.startFrequency fBase f.toNat r.ramp.toNat
  | none => c.rampStep false

/-- SEQ at a start sample: ACTIVE, the counts begun, the marker outputs set (R77, R78, R93, R145). -/
def Seq.startWith (q : Seq) (r : StepRecord) (retest : Bool) : Seq :=
  { q with
    state := .active
    progress := if r.unit = .samples then 1 else 0
    tally := { cycles := 0, lrms := none }
    out0 := match r.markers with
      | some m => markerAfter q.out0 m.out0
      | none => q.out0
    out1 := match r.markers with
      | some m => markerAfter q.out1 m.out1
      | none => q.out1
    awaitOpen := false
    retest := retest }

/-- The start sample: SEQ hands the step's changes to their owners and enters ACTIVE, JNT returns to IDLE,
and STATUS with cause STARTED is offered (R77, R89, R132). -/
def State.startStep (s : State) (a : Advance) (r : StepRecord) : State :=
  let hold := r.tripPolicy.getD s.stc.setup.policy = .hold
  let t := (((s.setSyn (s.syn.startWith r)).setCtb (s.ctb.startWith r a.fBase)).setOvl
    (s.ovl.applyAll r.overlays)).setFtu (s.startSettings r)
  let u := (t.setJnt { t.jnt with gate := .idle }).setSeq (t.seq.startWith r (hold && t.troubled))
  u.offerStatus .started

/-- An awaited level against the marker input latch (R74). -/
def awaitMet (in0 in1 : Bool) : Await → Bool
  | .none => true
  | .in0High => in0
  | .in0Low => !in0
  | .in1High => in1
  | .in1Low => !in1

/-- The count of a record's duration; absent is 0 (R53). -/
def StepRecord.count (r : StepRecord) : Nat := (r.duration.getD 0).toNat

/-- The progress of a step after a sample event, or an own wrap for CYCLES, taken in ACTIVE (R78). -/
def State.progressAfter (s : State) (a : Advance) (r : StepRecord) : Nat :=
  if r.unit = .samples || a.ownWrap then s.seq.progress + 1 else s.seq.progress

/-- SEQ's progress on a sample that is no start sample: an ACTIVE step counts its duration (R78), and an
ARMED step tests its await condition at an own wrap (R74, R75). -/
def State.seqProgress (s : State) (a : Advance) : State :=
  match s.seq.image with
  | none => s
  | some r =>
    match s.seq.state with
    | .active => s.setSeq { s.seq with progress := s.progressAfter a r }
    | .armed =>
      if a.ownWrap && !s.seq.awaitOpen && awaitMet s.seq.in0 s.seq.in1 r.awaited then
        let t := s.setSeq { s.seq with awaitOpen := true }
        match r.joint with
        | some j => t.enterGathering j
        | none => t
      else s
    | _ => s

/-- The ramps' progress on a sample that is no start sample (R9, R22, R23). -/
def State.rampProgress (s : State) : State :=
  (s.setSyn (s.syn.levelStep (s.seq.state = .frozen))).setCtb (s.ctb.rampStep (s.seq.state = .frozen))

/-- The start sample of a step, or the ramps' and SEQ's progress; before them the records have been tested again
(R89), the cycle of an own wrap has been counted to the step in effect (R144), and the tones have advanced (R38,
R41). -/
def State.stepWork (s : State) (a : Advance) : State :=
  let t := (s.freezeRetest.countCycle a).setOvl s.ovl.advance
  match t.starting a with
  | some r => t.startStep a r
  | none => t.rampProgress.seqProgress a

/-! ### What falls on one sample with SEQ's work -/

/-- SEQ may start a step, open a gate, or count a duration on a sample event (R74, R76, R78). -/
def State.mayWork (s : State) : Bool :=
  s.seq.state = .armed || s.seq.state = .gathering || s.seq.state = .active

/-- The sample event ends the step in effect by its duration: it is the step's last sample event, or its last own
wrap, with no freeze before it on the sample (R78, R89, R164). -/
def State.endsOn (s : State) (a : Advance) : Bool :=
  match s.seq.image with
  | some r => s.seq.state = .active && !(s.seq.retest && s.troubled) && s.progressAfter a r ≥ r.count
  | none => false

/-- The own trip that an own wrap has made due meets a start sample, the opening of a gate or the end of a step on
that sample, and may come before it (R49, R91, R144, R151). -/
def State.tripMeetsWork (s : State) (a : Advance) : Bool :=
  s.ftu.tripDue && (s.seq.state = .armed || s.seq.state = .gathering || s.endsOn a)

/-- The losses that a common wrap has made due may come before SEQ's work of the sample (R122, R155, R164). Under
FOLLOW a loss on the sample of an own trip comes after that trip, and finds the station TRIPPED: DESIGN CHOICE,
unsafe, notes/assumptions/3.md. -/
def State.lossMeetsWork (s : State) : Bool :=
  s.mayWork && s.anyLossDue && !(s.policyInForce = .follow && s.ftu.tripDue)

/-- A sample on which a trip of the station comes before SEQ's work: no step starts, freezes or ends, no duration is
counted and the cycle closed is counted to no step (R91, R144, R150); the tones and the ramps go on, and the trip
follows the sample, whose code has the overlay slots as they stood (R49, R155). -/
def State.withheldWork (s : State) : State := (s.setOvl s.ovl.advance).rampProgress

/-- A loss that the sample's common wrap has made due, before SEQ's work of the sample: under FOLLOW the station
will trip, and its step is kept from starting and from counting the sample and its cycle (R144, R150, R155); under
HOLD and IGNORE the record becomes LOST, which freezes an ACTIVE step under HOLD, the lock is evaluated, and SEQ's
work follows (R89, R123, R164). -/
def State.lossThenWork (s : State) (a : Advance) : State :=
  if s.policyInForce = .follow then s.withheldWork else s.carryLosses.carryEvaluation.stepWork a

/-- SEQ's work of a sample and the losses its common wrap has made due: the manual leaves the order open (R155,
R164). -/
def State.workAndLosses (s : State) (a : Advance) : State :=
  if s.lossMeetsWork then
    if Config.freeOrder s.freeCount then s.countOrder.lossThenWork a else s.countOrder.stepWork a
  else s.stepWork a

/-- SEQ's work of a sample and the own trip its own wrap has made due: where the trip meets a start, the opening of
a gate or the end of a step, the manual leaves the order open (R49, R91, R144); everywhere else the trip comes after
the cycle has been counted to the step (R151). What is not taken here first stays due and follows the sample. -/
def State.orderedWork (s : State) (a : Advance) : State :=
  if s.tripMeetsWork a then
    if Config.freeOrder s.freeCount then s.countOrder.withheldWork else s.countOrder.workAndLosses a
  else s.workAndLosses a

/-! ### The output code and the feedback -/

/-- The entries of the profile in force, as the Plan Store holds them (R26). -/
def State.profileInForce (s : State) : List ProfileEntry :=
  match s.syn.profile with
  | some i => s.pls.profile i
  | none => []

/-- Σ′ of a sample with own phase θ (R18, R24–R30). -/
def State.sampleValue (s : State) (theta : Phase) : Int :=
  let a := amplitude s.stc.setup.pNom s.syn.level s.ftu.phi
  let sum := sigma theta a s.profileInForce s.ovl s.stc.setup.pNom s.ftu.phi
  sigmaReplaced theta sum s.ovl s.stc.setup.pNom

/-- SYN computes the sample's code and presents it (R18, R31, R32). -/
def State.present (s : State) (theta : Phase) : State :=
  s.setSyn (s.syn.present (s.sampleValue theta) s.stc.setup.clip s.inEffect)

/-- FBM takes the sample's codes into the open cycle (R139). -/
def Fbm.accumulate (m : Fbm) (v i : Int) : Fbm :=
  { m with
    sumSquares := if m.samples < 65535 then m.sumSquares + v.natAbs * v.natAbs else m.sumSquares
    samples := if m.samples < 65535 then m.samples + 1 else m.samples
    peakV := max m.peakV v.natAbs
    peakI := max m.peakI i.natAbs }

/-- FTU's fold update from the sample's current code (R149). -/
def Ftu.foldUpdate (u : Ftu) (i : Int) (foldStep : Nat) : Ftu :=
  { u with phi := if i.natAbs > u.limit then max 64 (u.phi - foldStep) else min 1024 (u.phi + 1) }

/-- FBM and FTU take the sample's codes; FTU compares while the output is LIVE or FALLING (R138, R139, R149). -/
def State.feedback (s : State) (x : SampleInputs) : State :=
  let t := s.setFbm (s.fbm.accumulate x.voltage.toInt x.current.toInt)
  if t.syn.out = .dark then t
  else t.setFtu (t.ftu.foldUpdate x.current.toInt t.stc.setup.foldStep)

/-- The whole of a sample event (R3). -/
def State.sample (s : State) (x : SampleInputs) : State :=
  let a := s.ctb.nextAdvance
  let t := s.setCtb s.ctb.advance
  let u := if a.commonWrap then t.commonWrap a else t
  let v := if a.ownWrap then u.ownWrap x else u
  ((v.orderedWork a).present a.theta).feedback x

end Sys2Proof.Machine
end

