-- ==== Sys2Proof/Machine/Due.lean ====
section
/-! DEFINITION. The events that the table lists beside SAMPLE_EVENT and that a sample event or a taking
makes due: LEVEL_RAMP_END, FREQUENCY_RAMP_END, SAFE_RAMP_DOWN_END, STEP_DURATION_END, MARKER_LIMIT,
OWN_TRIP, PEER_LOST and GATHER_TIMEOUT. Each is one step of its own; `State.settle` carries out whatever is
due before the block takes anything else (DESIGN CHOICE, unsafe, notes/assumptions/3.md). -/

namespace Sys2Proof.Machine

/-- The step whose duration ends: SEQ is ACTIVE in it, and its progress has reached its count (R78). -/
def State.endingStep (s : State) : Option StepRecord :=
  match s.seq.image with
  | some r => if s.seq.state = .active && (r.count = 0 || s.seq.progress ≥ r.count) then some r else none
  | none => none

/-- The write-back of a completed pass carries `live` yes while a loop is open with passes remaining (R81). -/
def State.liveAfterPass (s : State) : Bool :=
  match s.seq.loop with
  | some l => l.remaining > 0
  | none => false

/-- A step ends by its duration: write-back COMPLETED, RESULT, STATUS with cause ENDED, and then HELD,
suspension or the next step (R69, R79). -/
def State.endStep (s : State) (r : StepRecord) : State :=
  let t := (s.writeBack r .completed s.liveAfterPass s.passMeasures).offerStatus .ended
  if r.holdAfter then (t.setSeq { t.seq with state := .held }).offerStatus .hold else t.moveOn r

/-- STEP_DURATION_END, if it is due. -/
def State.carryStepEnd (s : State) : State :=
  match s.endingStep with
  | some r => s.endStep r
  | none => s

/-- MARKER_LIMIT, if a taking has read its 1,024th marker (R73). -/
def State.carryMarkerLimit (s : State) : State :=
  if s.seq.markerLimit then (s.setSeq { s.seq with markerLimit := false }).fault .markerLimit else s

/-- OWN_TRIP, if it is due; a fault that a taking has already met comes first (R73, R151). -/
def State.carryOwnTrip (s : State) : State :=
  if s.ftu.tripDue then
    let t := s.carryMarkerLimit
    (t.setFtu { t.ftu with tripDue := false }).trip .foldback
  else s

/-- An OPEN gate's count of common wraps since entry has reached the timeout (R133). -/
def State.timeoutDue (s : State) : Bool :=
  s.jnt.gate = .opened && (s.ctb.commonCycles - s.jnt.entry).toNat ≥ s.jnt.timeout

/-- GATHER_TIMEOUT, if it is due (R133). -/
def State.carryTimeout (s : State) : State := if s.timeoutDue then s.withdraw .timeout else s

/-- LEVEL_RAMP_END: the ramp's index has reached R and the ramp ends; L stays at the target (R22). -/
def State.carryLevelRampEnd (s : State) : State :=
  if s.syn.rampDone then s.setSyn { s.syn with ramp := none } else s

/-- FREQUENCY_RAMP_END: the ramp's index has reached R and the ramp ends; F stays at the target (R9). -/
def State.carryFrequencyRampEnd (s : State) : State :=
  if s.ctb.rampDone then s.setCtb { s.ctb with ramp := none } else s

/-- SAFE_RAMP_DOWN_END: the output becomes DARK and FTU resets its streak (R33, R150, R152). -/
def State.carrySafeEnd (s : State) : State :=
  if s.syn.safeDone then (s.setSyn s.syn.darken).setFtu { s.ftu with streak := 0 } else s

/-- Something is due. -/
def State.due (s : State) : Bool :=
  s.endingStep.isSome || s.seq.markerLimit || s.ftu.tripDue || s.anyLossDue || s.lck.waiting.isSome || s.timeoutDue
    || s.syn.rampDone || s.ctb.rampDone || s.syn.safeDone

/-- The end of a step and an own trip that are both due: the manual gives both orders and no rule for which (R91,
R144). A trip that comes before the sample that would end the step is `State.orderedWork`'s. -/
def State.settleEnds (s : State) : State :=
  if s.endingStep.isSome && s.ftu.tripDue then
    s.eitherOrder (fun t => t.carryStepEnd.carryMarkerLimit) State.carryOwnTrip
  else s.carryStepEnd.carryMarkerLimit.carryOwnTrip

/-- A loss and a gather timeout due on one common wrap: the manual gives no rule for which comes first
(R122, R133). The lock evaluation that has waited for the losses comes after them (R123). -/
def State.settleWraps (s : State) : State :=
  if s.anyLossDue && s.timeoutDue then (s.eitherOrder State.carryLosses State.carryTimeout).carryEvaluation
  else s.carryLosses.carryTimeout.carryEvaluation

/-- Whatever is due is carried out before the block takes anything else. -/
def State.settle (s : State) : State :=
  if s.due then
    s.settleEnds.settleWraps.carryLevelRampEnd.carryFrequencyRampEnd.carrySafeEnd
  else s

end Sys2Proof.Machine
end

