-- ==== Sys2Proof/Machine/Events.lean ====
section
/-! DEFINITION. The meanings of SAMPLE_EVENT and of the events a sample event or a taking makes due. While a
reset is asserted and during the start sequence none of them comes about (R158). -/

namespace Sys2Proof.Machine

/-- A command taken by a running station: what is due is carried out first, and then the command. While a
reset is asserted or the start sequence runs, the station takes nothing (R158). -/
def State.taking (s : State) (f : State → State) : Host.Outcome State Fault Refusal :=
  .next (if s.running then f s.settle else s)

/-- One of the due events comes about, alone, when it is due (R158). -/
def State.carrying (s : State) (f : State → State) : Host.Outcome State Fault Refusal :=
  .next (if s.running then f s else s)

/-- SAMPLE_EVENT (R3). -/
def execSampleEvent (inputs : SampleInputs) (s : State) : Host.Outcome State Fault Refusal :=
  s.taking (·.sample inputs)

/-- LEVEL_RAMP_END (R22). -/
def execLevelRampEnd (s : State) : Host.Outcome State Fault Refusal := s.carrying State.carryLevelRampEnd

/-- FREQUENCY_RAMP_END (R9). -/
def execFrequencyRampEnd (s : State) : Host.Outcome State Fault Refusal :=
  s.carrying State.carryFrequencyRampEnd

/-- SAFE_RAMP_DOWN_END (R33, R152). -/
def execSafeRampDownEnd (s : State) : Host.Outcome State Fault Refusal := s.carrying State.carrySafeEnd

/-- STEP_DURATION_END (R79). -/
def execStepDurationEnd (s : State) : Host.Outcome State Fault Refusal := s.carrying State.carryStepEnd

/-- MARKER_LIMIT (R73). -/
def execMarkerLimit (s : State) : Host.Outcome State Fault Refusal := s.carrying State.carryMarkerLimit

/-- OWN_TRIP (R151). -/
def execOwnTrip (s : State) : Host.Outcome State Fault Refusal := s.carrying State.carryOwnTrip

/-- PEER_LOST (R122). A step whose last sample event or own wrap has been counted before the loss ends first, and a
fault that a taking has met comes first (R73, R164); the lock evaluation of the wrap comes after its last loss
(R123). -/
def execPeerLost (station : Station) (s : State) : Host.Outcome State Fault Refusal :=
  s.carrying fun t =>
    if t.lossDue station then (t.carryStepEnd.carryMarkerLimit.carryLoss station).carryEvaluation
    else t

/-- GATHER_TIMEOUT (R133). -/
def execGatherTimeout (s : State) : Host.Outcome State Fault Refusal := s.carrying State.carryTimeout

end Sys2Proof.Machine
end

