-- ==== Sys2Proof/Machine/Link.lean ====
section
/-! DEFINITION. The line events of the station link (6.1–6.6): LINE_IDLE, TRANSMIT_START,
ARBITRATION_LOSS, COLLISION, BAD_FRAME, OWN_ABORTED_FRAME_DISCARDED, START_BIT_SEEN and
DOMINANT_BIT_NOT_IDLE. DESIGN CHOICE: notes/assumptions/7.md and 12.md (unsafe), 15.md (safe). -/

namespace Sys2Proof.Machine

/-- Eleven consecutive recessive bits outside a frame: the line is idle (R95). -/
def State.lineIdle (s : State) : State :=
  if s.lnk.assembling then s else s.setLnk { s.lnk with lineIdle := true, recessive := 11 }

/-- LINE_IDLE (R95). -/
def execLineIdle (s : State) : Host.Outcome State Fault Refusal := s.taking State.lineIdle

/-- A frame's start bit: the line is taken, LNK begins to assemble the frame, and it latches the start tick,
the common phase and the effective increment in force at that tick (R95, R119). -/
def State.startBit (s : State) : State :=
  s.setLnk
    { s.lnk with
      lineIdle := false, recessive := 0, assembling := true, ownAborted := false
      latch := { tick := s.ctb.tick, thetaC := s.ctb.thetaCNow, fEff := s.ctb.fEff, captured := false } }

/-- Ticks pass before a timed event of the link (R2). -/
def State.passTicks (s : State) (elapsed : Nat) : State := s.setCtb (s.ctb.passTicks elapsed)

/-- What an empty queue leaves to time, in a running station: the event that is due comes about, and
otherwise one crystal tick passes, up to the tick before the next sample event, which is a command (R2, R3).
While a reset is asserted or the start sequence runs, nothing passes. DESIGN CHOICE, unsafe,
notes/assumptions/4.md. -/
def State.quiet (s : State) : State :=
  if s.running then if s.due then s.settle else s.passTicks 1 else s

/-- A start bit of another node: LNK assembles its frame and gives up its own start; on a line that is not
idle a dominant bit outside a frame only sets the count of recessive bits to 0 (R95, R97). -/
def State.otherStartBit (s : State) : State :=
  if s.lnk.lineIdle then s.startBit
  else if s.lnk.assembling then s
  else s.setLnk { s.lnk with recessive := 0 }

/-- START_BIT_SEEN (R95). -/
def execStartBitSeen (elapsed : Nat) (s : State) : Host.Outcome State Fault Refusal :=
  s.taking fun t => (t.passTicks elapsed).otherStartBit

/-- A dominant bit outside a frame on a line that is not idle: the count of recessive bits becomes 0 (R95). -/
def State.dominantNotIdle (s : State) : State :=
  if s.lnk.lineIdle || s.lnk.assembling then s else s.setLnk { s.lnk with recessive := 0 }

/-- DOMINANT_BIT_NOT_IDLE (R95). -/
def execDominantBitNotIdle (s : State) : Host.Outcome State Fault Refusal := s.taking State.dominantNotIdle

/-- The payload of a queue entry at its start bit: a MARK is filled with its age and the states as they
stand at that tick, every other frame is as offered (R110, R111). -/
def State.filled (s : State) (e : TxEntry) : Payload :=
  match e.item with
  | .mark i =>
    .mark
      { age := BitVec.ofNat 16 (markAge s.ctb.tick i), lock := s.lck.state, seq := s.seq.state
        out := s.syn.out, slot := s.seq.pointer }
  | .frame _ p => p

/-- On an idle line with no frame in the shifter, LNK discards stale MARKs at the head of the queue and
moves the next entry into the shifter, driving its start bit (R97, R105, R110). -/
def State.transmitStart (s : State) : State :=
  if s.lnk.lineIdle && s.lnk.shifter.isNone then
    let q := dropStale s.ctb.tick s.lnk.queue
    let l := { s.lnk with queue := q.1, markStale := s.lnk.markStale || q.2 }
    match q.1 with
    | [] => s.setLnk l
    | e :: rest =>
      (s.setLnk
        { l with
          queue := rest
          shifter := some { entry := e, payload := s.filled e, discard := false } }).startBit
  else s

/-- TRANSMIT_START (R97, R110). -/
def execTransmitStart (elapsed : Nat) (s : State) : Host.Outcome State Fault Refusal :=
  s.taking fun t => (t.passTicks elapsed).transmitStart

/-- ARBITRATION_LOSS: the frame returns to the queue, and LNK goes on assembling the winning frame (R97, R108). -/
def execArbitrationLoss (s : State) : Host.Outcome State Fault Refusal :=
  s.taking fun t => t.setLnk t.lnk.giveBack

/-- A collision: the counter rises, the frame returns to the queue, and the frame on the line is the
station's own aborted frame unless its check passes (R98, R108). -/
def State.collide (s : State) : State :=
  if s.lnk.shifter.isSome then
    let l := s.lnk.giveBack
    s.setLnk { l with collisions := satAdd 255 l.collisions 1, ownAborted := true }
  else s

/-- COLLISION (R98). -/
def execCollision (s : State) : Host.Outcome State Fault Refusal := s.taking State.collide

/-- The end of the frame being assembled: recessive bits are counted from 0 (R95). -/
def State.frameEnd (s : State) : State :=
  s.setLnk { s.lnk with lineIdle := false, recessive := 0, assembling := false, ownAborted := false }

/-- The frame LNK has been assembling is received. Without a start bit seen on the idle line LNK assembles none,
and a frame already in progress at the end of the start sequence is not received (R95, R96). -/
def State.heard (s : State) (f : State → State) : State := if s.lnk.assembling then f s.frameEnd else s

/-- A received frame fails the check: it sets RX_CHECK and is counted, unless it is the station's own aborted
frame (R98, R100, R114). -/
def State.badFrame (s : State) : State :=
  s.heard fun t =>
    if s.lnk.ownAborted then t
    else t.setLnk { t.lnk with rxCheck := true, checkErrors := satAdd 255 t.lnk.checkErrors 1 }

/-- BAD_FRAME (R100). -/
def execBadFrame (s : State) : Host.Outcome State Fault Refusal := s.taking State.badFrame

/-- OWN_ABORTED_FRAME_DISCARDED: neither flag nor count (R98). -/
def execOwnAbortedFrameDiscarded (s : State) : Host.Outcome State Fault Refusal :=
  s.taking fun t => if t.lnk.ownAborted then t.heard id else t

end Sys2Proof.Machine
end

