-- ==== Sys2Proof/Machine/Frames.lean ====
section
/-! DEFINITION. The frames a station receives and dispatches (6.4, chapters 7, 8 and 10): MARK, TRIP, JOIN,
WITHDRAW, STATUS, the replies, and ignored frames. A frame carrying the station's own number that the
station did not send to its end is a duplicate number (how the two are told apart: DEDUCED, unsafe,
notes/assumptions/13.md). -/

namespace Sys2Proof.Machine

/-- A frame that LNK has assembled is received and ends on the line (R95). With the station's own number as sender
it is either the frame in the shifter, which has now been sent, or a duplicate number, which is not dispatched
(R99, R102, R105). -/
def State.received (s : State) (sender : NodeNumber) (isThis : Payload → Bool) (dispatch : State → State) :
    State :=
  s.heard fun t =>
    if sender.toNat = t.own.toNat then
      match t.lnk.shifter with
      | some x =>
        if isThis x.payload then dispatch (t.setLnk { t.lnk with shifter := none })
        else t.fault .duplicateNumber
      | none => t.fault .duplicateNumber
    else dispatch t

/-- A station number as a node number. -/
def nodeOf (n : Station) : NodeNumber := n.setWidth 4

/-- The error of a peer's MARK, from the values latched at its start bit: (θc − floor(age × F_eff′ / 1,600))
modulo 2^32, read as signed (R119). -/
def markError (l : StartLatch) (age : Word16) : Int :=
  (l.thetaC - BitVec.ofNat 32 (age.toNat * l.fEff / 1600)).toInt

/-- The record of a MARK's sender: presence, age and error of another station; reported state, tripped flag
and join tag of any (R118, R119). -/
def State.markRecord (s : State) (n : Station) (m : MarkFields) : PeerRecord :=
  let r := s.ptb.peer n
  let r := if n = s.own then r else { r with state := .present, age := 0 }
  let r :=
    if s.expectedPeer n && !s.lnk.latch.captured then
      { r with error := markError s.lnk.latch m.age, fresh := true }
    else r
  { r with
    reported := m.seq, tripped := m.seq = .tripped
    joinTag := if m.seq = .gathering then r.joinTag else none }

/-- MARK_RECEIVED (R118). -/
def execMarkReceived (sender : Station) (mark : MarkFields) (s : State) : Host.Outcome State Fault Refusal :=
  s.taking fun t =>
    t.received (nodeOf sender) (fun p => p = .mark mark) fun u => u.updatePeer sender (u.markRecord sender mark)

/-- TRIP_RECEIVED: the sender's tripped flag is set, whatever the cause carried (R120). -/
def execTripReceived (sender : Station) (cause : TripCause) (slot : Slot) (s : State) :
    Host.Outcome State Fault Refusal :=
  s.taking fun t =>
    t.received (nodeOf sender) (fun p => p = .trip cause slot) fun u =>
      u.updatePeer sender { u.ptb.peer sender with tripped := true }

/-- Every station of the gate's mask holds the gathering tag (R130). -/
def State.allJoined (s : State) : Bool :=
  stations.all fun n => !maskHas s.jnt.mask n || (s.ptb.peer n).joinTag = some s.jnt.tag

/-- The barrier completes: JNT removes the WITHDRAW it offered in this gathering, and waits for the next
common wrap (R131, R132). -/
def State.completeBarrier (s : State) : State :=
  let t := match s.jnt.withdrawRef with
    | some r => s.setLnk (s.lnk.remove (Payload.isWithdraw s.jnt.tag r))
    | none => s
  t.setJnt { t.jnt with gate := .complete, angleTest := false }

/-- JNT tests for completion on a good JOIN while the gate is OPEN or WITHDRAWING (R130). -/
def State.testBarrier (s : State) (sender : Station) (tag : Tag) : State :=
  if s.jnt.gate = .opened || s.jnt.gate = .withdrawing then
    let t := if sender = s.own && tag = s.jnt.tag then s.setJnt { s.jnt with ownJoin := true } else s
    if t.jnt.ownJoin && t.allJoined then t.completeBarrier else t
  else s

/-- JOIN_RECEIVED (R120, R130). -/
def execJoinReceived (sender : Station) (tag : Tag) (mask : Mask) (s : State) :
    Host.Outcome State Fault Refusal :=
  s.taking fun t =>
    t.received (nodeOf sender) (fun p => p = .join tag mask) fun u =>
      (u.updatePeer sender { u.ptb.peer sender with joinTag := some tag }).testBarrier sender tag

/-- JNT's action on a good WITHDRAW: an OPEN or WITHDRAWING barrier of the same tag is abandoned (R134). -/
def State.heardWithdraw (s : State) (tag : Tag) : State :=
  if (s.jnt.gate = .opened || s.jnt.gate = .withdrawing) && tag = s.jnt.tag then s.abandon else s

/-- WITHDRAW_RECEIVED (R120, R134). -/
def execWithdrawReceived (sender : Station) (tag : Tag) (reason : WithdrawReason) (s : State) :
    Host.Outcome State Fault Refusal :=
  s.taking fun t =>
    t.received (nodeOf sender) (fun p => p = .withdraw tag reason) fun u =>
      (u.updatePeer sender { u.ptb.peer sender with joinTag := none }).heardWithdraw tag

/-- The causes of a STATUS that can follow a trip and clear the tripped flag (R120). -/
def clearsTrip : StatusCause → Bool
  | .start | .clear | .fault => true
  | _ => false

/-- The record of a STATUS's sender (R120). -/
def PeerRecord.afterStatus (r : PeerRecord) (cause : StatusCause) (seq : SeqState) : PeerRecord :=
  { r with
    reported := seq
    joinTag := if seq = .gathering then r.joinTag else none
    tripped := if seq ≠ .tripped && clearsTrip cause then false else r.tripped }

/-- Whether a frame is a STATUS with a cause and a sequencer state, the fields PTB reads (R120). -/
def Payload.isStatus (cause : StatusCause) (seq : SeqState) : Payload → Bool
  | .status y => y.cause = cause && y.seq = seq
  | _ => false

/-- STATUS_RECEIVED (R120). -/
def execStatusReceived (sender : Station) (cause : StatusCause) (seq : SeqState) (s : State) :
    Host.Outcome State Fault Refusal :=
  s.taking fun t =>
    t.received (nodeOf sender) (Payload.isStatus cause seq) fun u =>
      u.updatePeer sender ((u.ptb.peer sender).afterStatus cause seq)

/-- Whether a frame is a reply of a kind (R102). -/
def Payload.isReply (k : ReplyKind) : Payload → Bool
  | .result _ _ _ => k = .result
  | .answer _ _ _ => k = .answer
  | .stepCopy _ _ => k = .stepCopy
  | _ => false

/-- REPLY_FRAME_RECEIVED: no block takes it (R102). -/
def execReplyFrameReceived (sender : Station) (kind : ReplyKind) (s : State) :
    Host.Outcome State Fault Refusal :=
  s.taking fun t => t.received (nodeOf sender) (Payload.isReply kind) id

/-- IGNORED_FRAME_RECEIVED: the duplicate-number test alone is made on it; the station never sends such a
frame itself (R99, R101). -/
def execIgnoredFrameReceived (sender : NodeNumber) (s : State) : Host.Outcome State Fault Refusal :=
  s.taking fun t => t.received sender (fun _ => false) id

end Sys2Proof.Machine
end

