-- ==== Sys2Proof/Machine/Operands.lean ====
section
/-! DEFINITION. The operands of the writing requests: which codes name something, the content checks of a
step record (R61), and the clamps of step records (R62), profiles (R64) and SETUP values (R162).
notes/assumptions/17.md (DEDUCED, unsafe) and 18.md (DEDUCED, safe). -/

namespace Sys2Proof.Machine

/-! ### Codes (R116) -/

/-- The kind a two-bit code names; 3 names none. -/
def stepKindOf (c : BitVec 2) : Option StepKind :=
  match c.toNat with
  | 0 => some .normal
  | 1 => some .loopBegin
  | 2 => some .loopEnd
  | _ => none

/-- The condition an `await` code names. -/
def awaitOf (c : Byte) : Option Await :=
  match c.toNat with
  | 0 => some .none
  | 1 => some .in0High
  | 2 => some .in0Low
  | 3 => some .in1High
  | 4 => some .in1Low
  | _ => none

/-- The policy a code names. -/
def policyOf (c : Byte) : Option TripPolicy :=
  match c.toNat with
  | 0 => some .follow
  | 1 => some .hold
  | 2 => some .ignore
  | _ => none

/-- The setting a two-bit code names; 3 names none. -/
def settingOf (c : BitVec 2) : Option MarkerSetting :=
  match c.toNat with
  | 0 => some .keep
  | 1 => some .low
  | 2 => some .high
  | _ => none

/-- The `markers` part of four bits: bits 3..2 OUT1, bits 1..0 OUT0. -/
def markersOf (c : BitVec 4) : Option MarkerPart :=
  match settingOf (c.extractLsb' 0 2), settingOf (c.extractLsb' 2 2) with
  | some out0, some out1 => some { out0 := out0, out1 := out1 }
  | _, _ => none

/-- The selection of a `profile` byte: 0..7, or none for 255; every other index is above 7. -/
def profileOf (c : Byte) : Option (Option ProfileIndex) :=
  if c = 255 then some none
  else if c.toNat < 8 then some (some (c.extractLsb' 0 3))
  else none

/-- An overlay-change entry, unless it names a slot above 7, no action, or ARM OFF (R61). -/
def overlayOf (e : RawOverlay) : Option OverlayChange :=
  if e.slot.toNat > 7 then none
  else
    let slot : OverlayIndex := e.slot.extractLsb' 0 3
    let w0 : Angle := e.wide.extractLsb' 16 16
    let w1 : Angle := e.wide.extractLsb' 0 16
    match e.action.toNat with
    | 0 => some { slot := slot, arm := none }
    | 1 => some { slot := slot, arm := some (.tone e.wide e.narrow) }
    | 2 => some { slot := slot, arm := some (.offset e.narrow) }
    | 3 => some { slot := slot, arm := some (.notch e.narrow w0 w1) }
    | 4 => some { slot := slot, arm := some (.flattop e.narrow w0 w1) }
    | 5 => some { slot := slot, arm := some (.force e.narrow w0 w1) }
    | _ => none

/-- An optional part whose code must name something: absent stays absent. -/
def namedPart {α β : Type} (f : α → Option β) : Option α → Option (Option β)
  | none => some none
  | some a => (f a).map some

/-- Every entry of a list that must be named. -/
def namedList {α β : Type} (f : α → Option β) : List α → Option (List β)
  | [] => some []
  | a :: l =>
    match f a, namedList f l with
    | some b, some bs => some (b :: bs)
    | _, _ => none

/-- The record a STEP_WRITE carries, with its codes named and its values as sent; none when a code names
nothing. A record without `duration` is stored with count 0 and unit SAMPLES, and one without `await` with none
(R53, R54); the outcome part is absent (R61, R62). -/
def namedRecord (r : RawRecord) : Option StepRecord :=
  match stepKindOf r.kind, namedPart awaitOf r.await, namedPart policyOf r.tripPolicy,
      namedPart profileOf r.profile, namedPart markersOf r.markers, namedList overlayOf r.overlays with
  | some kind, some await, some policy, some profile, some markers, some overlays =>
    some
      { live := r.live, wrap := r.wrap, kind := kind, loopCount := r.loopCount, level := r.level
        frequency := r.frequency, ramp := r.ramp, startAngle := r.startAngle, duration := some (r.duration.getD 0)
        unit := if r.duration.isSome && r.unit then .cycles else .samples
        await := some (await.getD .none)
        joint := r.joint.map fun j => { tag := j.tag, mask := j.mask, timeout := j.timeout }
        tripPolicy := policy, currentLimit := r.currentLimit, tripCycles := r.tripCycles
        profile := profile, markers := markers, holdAfter := r.holdAfter, notify := r.notify
        overlays := overlays, outcome := none }
  | _, _, _, _, _, _ => none

/-- The mask contains the station's own number and names no station at or above the count (R61). -/
def maskFits (own : Station) (count : Nat) (m : Mask) : Bool :=
  maskHas m own && stations.all fun n => !maskHas m n || n.toNat < count

/-! ### Clamps -/

/-- A two-byte value stored within lo..hi (R62). -/
def clampWord (lo hi : Nat) (x : Word16) : Word16 := BitVec.ofNat 16 (clampRange lo hi x.toNat)

/-- The code −32,768 is stored as −32,767 (R62). -/
def clampCode (c : Code) : Code := if c.toInt = -32768 then BitVec.ofInt 16 (-32767) else c

/-- The stored parameters of an ARM entry (R62). -/
def OverlayArm.clamped : OverlayArm → OverlayArm
  | .tone f b => .tone (if f.toNat > 250000 then 250000 else f) (clampWord 0 5000 b)
  | .offset c => .offset (clampCode c)
  | .notch d w0 w1 => .notch (clampWord 0 10000 d) w0 w1
  | .flattop b w0 w1 => .flattop (clampWord 0 10000 b) w0 w1
  | .force c w0 w1 => .force (clampCode c) w0 w1

/-- The record with the first eight adjustments of R62: every value within its stored range. -/
def StepRecord.clamped (r : StepRecord) : StepRecord :=
  { r with
    level := r.level.map (clampWord 0 15000)
    frequency := r.frequency.map (clampWord 4000 7000)
    joint := r.joint.map fun j => { j with timeout := if j.timeout = 0 then 1 else j.timeout }
    currentLimit := r.currentLimit.map (clampWord 1 32767)
    overlays := r.overlays.map fun e => { e with arm := e.arm.map OverlayArm.clamped } }

/-- The record with the last adjustments of R62: a loop marker keeps its core fields alone, and a NORMAL or
LOOP_END record has `loop_count` 0 (R52). -/
def StepRecord.trimmed (r : StepRecord) : StepRecord :=
  match r.kind with
  | .normal => { r with loopCount := 0 }
  | .loopBegin =>
    { StepRecord.empty with live := r.live, wrap := r.wrap, kind := .loopBegin, loopCount := r.loopCount }
  | .loopEnd => { StepRecord.empty with live := r.live, wrap := r.wrap, kind := .loopEnd }

/-- A STEP_WRITE's content at a station: none for RANGE, and otherwise the record as stored and whether a
value was clamped (R61, R62). -/
def storeRecord (own : Station) (count : Nat) (raw : RawRecord) : Option (StepRecord × Bool) :=
  match namedRecord raw with
  | none => none
  | some r =>
    if raw.overlays.length > 4 || !(r.joint.all fun j => maskFits own count j.mask) then none
    else some (r.clamped.trimmed, r.clamped ≠ r)

/-- A profile entry as stored: order within 2..50, amplitude within 0..400 (R64). -/
def ProfileEntry.clamped (e : ProfileEntry) : ProfileEntry :=
  { e with order := BitVec.ofNat 8 (clampRange 2 50 e.order.toNat), amplitude := clampWord 0 400 e.amplitude }

/-- The seven SETUP values as stored, with the policy its code names (R162). -/
def storedSetup (v : RawSetup) (policy : TripPolicy) : Setup :=
  { pNom := clampRange 1 32767 v.pNom.toNat
    clip := clampRange 1 32767 v.clip.toNat
    limit := clampRange 1 32767 v.limit.toNat
    dSafe := clampRange 64 4096 v.dSafe.toNat
    foldStep := clampRange 1 64 v.foldStep.toNat
    policy := policy
    frequency := clampRange 4000 7000 v.frequency.toNat }

/-- Some value of the SETUP was clamped (R161, R162). -/
def setupClamped (v : RawSetup) : Bool :=
  let p := storedSetup v .follow
  p.pNom ≠ v.pNom.toNat || p.clip ≠ v.clip.toNat || p.limit ≠ v.limit.toNat || p.dSafe ≠ v.dSafe.toNat
    || p.foldStep ≠ v.foldStep.toNat || p.frequency ≠ v.frequency.toNat

/-- The first payload byte of a two-byte value: its high byte (R116). -/
def highByte (x : Word16) : Byte := x.extractLsb' 8 8

/-- The low byte of a two-byte value (R116). -/
def lowByte (x : Word16) : Byte := x.extractLsb' 0 8

end Sys2Proof.Machine
end

