-- ==== Sys2Proof/Machine/Requests.lean ====
section
/-! DEFINITION. The requests of the service nodes (6.4): SETUP, the Plan Store's three, the five
sequencer requests, QUERY, and a request that cannot be read. The answer is offered before the frames of
the request's effects (R85, R111, R112). -/

namespace Sys2Proof.Machine

/-- A request is a frame that LNK has assembled; it is taken by a running station (R95, R103, R158). -/
def State.requested (s : State) (f : State → State) : Host.Outcome State Fault Refusal :=
  s.taking fun t => t.heard f

/-- A request addressed to the station is answered to the requesting node; one addressed to ALL is not (R103). -/
def State.reply (s : State) (req : Requester) (p : Payload) : State :=
  if req.toAll then s else s.offer (.frame req.node p)

/-- The ANSWER to a request (R112, R116). -/
def State.answer (s : State) (req : Requester) (kind : RequestKind) (first : Byte) (code : AnswerCode) : State :=
  s.reply req (.answer kind first code)

/-! ### SETUP (11.4) -/

/-- An accepted SETUP: the seven values are stored together and handed to their users (R17, R34, R148, R161). -/
def State.applySetup (s : State) (v : Setup) : State :=
  ((s.setStc { s.stc with setup := v }).setCtb (s.ctb.setF (incrementOf v.frequency))).setFtu
    { s.ftu with limit := v.limit }

/-- SEQ IDLE, output DARK and the energized-since-start latch clear: SETUP may be taken (R161). -/
def State.setupAllowed (s : State) : Bool :=
  s.seq.state = .idle && s.syn.out = .dark && !s.stc.energized

/-- SETUP (R161, R162). -/
def execSetup (req : Requester) (values : RawSetup) (s : State) : Host.Outcome State Fault Refusal :=
  s.requested fun t =>
    let first := highByte values.pNom
    if !t.setupAllowed then t.answer req .setup first .refused
    else
      match policyOf values.policy with
      | none => t.answer req .setup first .range
      | some policy =>
        (t.answer req .setup first (if setupClamped values then .clamped else .ok)).applySetup
          (storedSetup values policy)

/-! ### The Plan Store's requests (4.5–4.7) -/

/-- The slot is the current slot (R60, R69). -/
def State.isCurrentSlot (s : State) (slot : Slot) : Bool := holdsSlot s.seq.state && slot = s.seq.pointer

/-- STEP_WRITE (R60–R62). -/
def execStepWrite (req : Requester) (slot : Slot) (record : RawRecord) (s : State) :
    Host.Outcome State Fault Refusal :=
  s.requested fun t =>
    if t.isCurrentSlot slot then t.answer req .stepWrite slot .busy
    else
      match storeRecord t.own t.count record with
      | none => t.answer req .stepWrite slot .range
      | some (r, clamped) =>
        let u := t.answer req .stepWrite slot (if clamped then .clamped else .ok)
        u.setPls (u.pls.setSlot slot r)

/-- Where an accepted profile list goes: a pending copy held for the index is replaced; the profile in force
gets a pending copy; any other profile is replaced at once (R28, R65). The manual allows one pending copy and does
not say which gives way when the profile in force is written while a copy for another profile waits: here the
new one takes its place and the older write is lost. DESIGN CHOICE, unsafe, notes/assumptions/34.md. -/
def State.placeProfile (s : State) (i : ProfileIndex) (l : List ProfileEntry) : State :=
  if (s.syn.pendingCopy.any fun p => p.1 = i) || s.syn.profile = some i then
    s.setSyn { s.syn with pendingCopy := some (i, l) }
  else s.setPls (s.pls.setProfile i l)

/-- PROFILE_WRITE (R64, R65). -/
def execProfileWrite (req : Requester) (index count : Byte) (entries : List ProfileEntry) (s : State) :
    Host.Outcome State Fault Refusal :=
  s.requested fun t =>
    if index.toNat > 7 || count.toNat > 12 || entries.length > 12 then t.answer req .profileWrite index .range
    else
      let l := entries.map ProfileEntry.clamped
      (t.answer req .profileWrite index (if l ≠ entries then .clamped else .ok)).placeProfile
        (index.extractLsb' 0 3) l

/-- STEP_READ (R66). -/
def execStepRead (req : Requester) (slot : Slot) (s : State) : Host.Outcome State Fault Refusal :=
  s.requested fun t => t.reply req (.stepCopy slot (t.pls.slot slot))

/-! ### The sequencer requests (5.8) -/

/-- The peer test of a RUN: some expected peer is not PRESENT, or is reported TRIPPED or FAULTED (R85). -/
def State.peersUnready (s : State) : Bool :=
  stations.any fun n =>
    s.expectedPeer n
      && ((s.ptb.peer n).state ≠ .present || (s.ptb.peer n).reported = .tripped
        || (s.ptb.peer n).reported = .faulted)

/-- The lock test of a RUN: LOCKED, or ALONE with a station count of 1 (R85). -/
def State.lockReady (s : State) : Bool := s.lck.state = .locked || (s.count = 1 && s.lck.state = .alone)

/-- The answer to a RUN (R85). -/
def State.runAnswer (s : State) : AnswerCode :=
  if holdsSlot s.seq.state then .busy
  else if s.seq.state = .tripped || s.seq.state = .faulted then .refused
  else if s.syn.out = .falling || s.peersUnready || !s.lockReady then .refused
  else .ok

/-- A RUN's start slot sets the pointer and the ring start and closes any open loop (R85 step 1). -/
def Seq.runFrom (q : Seq) : Option Slot → Seq
  | some slot => { q with pointer := slot, ringStart := slot, loop := none }
  | none => q

/-- SYN makes a DARK output LIVE with L = 0; a LIVE one is unchanged (R33, R85 step 2). -/
def Syn.energize (y : Syn) : Syn :=
  if y.out = .dark then { y with out := .live, level := 0, ramp := none } else y

/-- An accepted RUN: pointer, output and latch, STATUS with cause RUN, and the taking of a step (R85, R163). -/
def State.startRun (s : State) (start : Option Slot) : State :=
  (((s.setSeq (s.seq.runFrom start)).setSyn s.syn.energize).setStc
    { s.stc with energized := true }).offerStatus .run |>.takeStep

/-- The first payload byte of a RUN: its start slot, or 0 when it had none (R116). -/
def runFirst : Option Slot → Byte
  | some slot => slot
  | none => 0

/-- RUN (R85). -/
def execRun (req : Requester) (start : Option Slot) (s : State) : Host.Outcome State Fault Refusal :=
  s.requested fun t =>
    let u := t.answer req .run (runFirst start) t.runAnswer
    if t.runAnswer = .ok then u.startRun start else u

/-- The answer to a SUSPEND (R86). -/
def suspendAnswer : SeqState → AnswerCode
  | .active | .frozen | .armed | .held => .ok
  | .gathering => .busy
  | .idle | .suspended | .tripped | .faulted => .refused

/-- SEQ enters SUSPENDED at once, letting go of the step it holds (R86). -/
def State.suspendNow (s : State) : State :=
  (s.setSeq { s.seq with state := .suspended, image := none, suspendLatch := false }).offerStatus .suspend

/-- The effect of a SUSPEND by state: latched in ACTIVE and FROZEN; at once in ARMED, with the pointer kept,
and in HELD, with the pointer at the next slot (R86). -/
def State.suspend (s : State) : State :=
  match s.seq.state, s.seq.image with
  | .active, _ => s.setSeq { s.seq with suspendLatch := true }
  | .frozen, _ => s.setSeq { s.seq with suspendLatch := true }
  | .armed, _ => s.suspendNow
  | .held, some r => (s.pointToNext r).suspendNow
  | .held, none => s.suspendNow
  | _, _ => s

/-- SUSPEND (R86). -/
def execSuspend (req : Requester) (s : State) : Host.Outcome State Fault Refusal :=
  s.requested fun t => (t.answer req .suspend 0 (suspendAnswer t.seq.state)).suspend

/-- In HELD a RELEASE offers STATUS with cause RELEASE and moves SEQ on (R69, R84). -/
def State.release (s : State) : State :=
  match s.seq.state, s.seq.image with
  | .held, some r => (s.offerStatus .release).moveOn r
  | _, _ => s

/-- RELEASE (R84). -/
def execRelease (req : Requester) (s : State) : Host.Outcome State Fault Refusal :=
  s.requested fun t =>
    (t.answer req .release 0 (if t.seq.state = .held then .ok else .notHeld)).release

/-- An ABORT is refused in TRIPPED and FAULTED (R87). -/
def abortAnswer (q : SeqState) : AnswerCode := if q = .tripped || q = .faulted then .refused else .ok

/-- The effect of an ABORT: none in TRIPPED, FAULTED and in IDLE with the output DARK or FALLING; otherwise
the step is dropped, the output falls and SEQ is IDLE (R87). -/
def State.abort (s : State) : State :=
  if s.seq.state = .tripped || s.seq.state = .faulted || (s.seq.state = .idle && s.syn.out ≠ .live) then s
  else (((s.dropStep .aborted .aborted).rest .idle).enterFalling).offerStatus .abort

/-- ABORT (R87). -/
def execAbort (req : Requester) (s : State) : Host.Outcome State Fault Refusal :=
  s.requested fun t => (t.answer req .abort 0 (abortAnswer t.seq.state)).abort

/-- SEQ is in TRIPPED or FAULTED, which a CLEAR may leave (R88). -/
def State.stopped (s : State) : Bool := s.seq.state = .tripped || s.seq.state = .faulted

/-- A CLEAR is refused in TRIPPED or FAULTED while the output is FALLING, and in a strap fault (R88). -/
def State.clearRefused (s : State) : Bool :=
  s.stopped && (s.syn.out ≠ .dark || (s.seq.state = .faulted && s.seq.faultCause = .strap))

/-- FTU on a CLEAR that leaves TRIPPED or FAULTED (R157). -/
def Ftu.restored (u : Ftu) : Ftu := { u with phi := 1024, tripCause := none, streak := 0, folded := false }

/-- A CLEAR that leaves TRIPPED or FAULTED (R88, R157). -/
def State.clearStop (s : State) : State :=
  let t := s.clearSticky
  ((t.setFtu t.ftu.restored).setSeq
    { t.seq with state := .idle, faultCause := .none, loop := none }).offerStatus .clear

/-- CLEAR (R88). -/
def execClear (req : Requester) (s : State) : Host.Outcome State Fault Refusal :=
  s.requested fun t =>
    if t.clearRefused then t.answer req .clear 0 .refused
    else
      let u := t.answer req .clear 0 .ok
      if t.stopped then u.clearStop else u.clearSticky

/-! ### QUERY and requests that cannot be read -/

/-- QUERY: a STATUS with cause QUERY to the requesting node (R104). -/
def execQuery (req : Requester) (s : State) : Host.Outcome State Fault Refusal :=
  s.requested fun t => t.reply req (.status (t.summary .query))

/-- UNREADABLE_REQUEST: answered RANGE, or ignored when sent to ALL (R103). -/
def execUnreadableRequest (req : Requester) (kind : RequestKind) (first : Byte) (s : State) :
    Host.Outcome State Fault Refusal :=
  s.requested fun t => t.answer req kind first .range

end Sys2Proof.Machine
end

