-- ==== Sys2Proof/Machine/Start.lean ====
section
/-! DEFINITION. Resets and the start sequence (chapter 11): POWER_ON, SUPPLY_LOW, RESET_PIN,
RESET_RELEASED, POWER_UP_DELAY_END and OSCILLATOR_COUNT_END. DESIGN CHOICE, unsafe: notes/assumptions/19.md,
20.md and 27.md. -/

namespace Sys2Proof.Machine

/-- The rank of a reset kind: POWER_ON, then SUPPLY_LOW, then RESET_PIN (R158). -/
def causeRank : StartCause → Nat
  | .powerOn => 2
  | .supplyLow => 1
  | .resetPin => 0

/-- The pending cause after an assertion: replaced when the new kind ranks above it (R158). -/
def nextPendingCause (old : Option StartCause) (kind : StartCause) : StartCause :=
  match old with
  | none => kind
  | some c => if causeRank kind > causeRank c then kind else c

/-- What LNK loses when a reset is asserted: the queue, the frame in the shifter and the frame being
assembled; it neither drives nor receives (R95, R115). -/
def Lnk.cutOff (l : Lnk) : Lnk :=
  { l with
    lineIdle := false, recessive := 0, queue := [], shifter := none, assembling := false
    ownAborted := false }

/-- A reset kind is asserted: the pending cause is updated by rank, the converter port presents 0, the
output is DARK, the marker outputs go low, and each block discards what it has in flight; FTU's streak
becomes 0 with the output DARK (R158; R16, R33, R35, R50, R94, R115, R128, R146, R150). The fold ends with the
output (R147); Φ itself keeps its value until the end of the start sequence: DESIGN CHOICE, unsafe,
notes/assumptions/19.md. -/
def State.assertReset (s : State) (kind : StartCause) : State :=
  { s with
    stc := { s.stc with phase := .asserted, pendingCause := some (nextPendingCause s.stc.pendingCause kind) }
    ctb := { s.ctb with ramp := none }
    syn := { s.syn with out := .dark, level := 0, ramp := none, safe := none, pendingCopy := none, dac := 0 }
    ovl := Ovl.allOff
    seq := { s.seq with out0 := false, out1 := false, retest := false, markerLimit := false }
    jnt := { s.jnt with gate := .idle, ownJoin := false, withdrawRef := none, angleTest := false }
    lnk := s.lnk.cutOff
    lck := { s.lck with waiting := none }
    fbm := { s.fbm with sumSquares := 0, samples := 0, peakV := 0, peakI := 0 }
    ftu := { s.ftu with streak := 0, tripDue := false } }

/-- A reset comes after all that the sample event before it brought about: a step that has ended holds its
write-back, and a trip or a loss of that sample has been carried out (R68, R79, R122, R151; what is due comes first:
DESIGN CHOICE, unsafe, notes/assumptions/3.md). A step still in effect is not written back (R68). -/
def State.resetBy (s : State) (kind : StartCause) : State :=
  (if s.running then s.settle else s).assertReset kind

/-- POWER_ON is asserted (R158). -/
def execPowerOn (s : State) : Host.Outcome State Fault Refusal := .next (s.resetBy .powerOn)

/-- SUPPLY_LOW is asserted (R158). -/
def execSupplyLow (s : State) : Host.Outcome State Fault Refusal := .next (s.resetBy .supplyLow)

/-- RESET_PIN is asserted (R158). -/
def execResetPin (s : State) : Host.Outcome State Fault Refusal := .next (s.resetBy .resetPin)

/-- No reset kind is asserted any longer: the start sequence begins from its first stage (R158). -/
def execResetReleased (s : State) : Host.Outcome State Fault Refusal :=
  .next (if s.stc.phase = .asserted then s.setStc { s.stc with phase := .powerUpDelay } else s)

/-- The power-up delay of 1,048,576 ticks expires and the oscillator count begins (R159). -/
def execPowerUpDelayEnd (s : State) : Host.Outcome State Fault Refusal :=
  .next (if s.stc.phase = .powerUpDelay then s.setStc { s.stc with phase := .oscillatorCount } else s)

/-- The phase offset δ of a phase offset select (R160). -/
def offsetOf (select : BitVec 3) : Phase :=
  match select.toNat with
  | 0 => 0
  | 1 => 1431655765
  | 2 => 2863311531
  | 3 => 2147483648
  | 4 => 1073741824
  | 5 => 3221225472
  | 6 => 715827883
  | _ => 3579139413

/-- Every block at its start value, before STC offers the STATUS with cause START (R16, R35, R50, R67, R68,
R94, R115, R117, R125, R128, R146, R147, R159, R160). -/
def startValues (straps : Straps) (cause : StartCause) (setup : Setup) (pls : Pls) (freeCount : Nat)
    (pending : List Instr) : State :=
  let strapFault : Bool := straps.number.toNat ≥ straps.count
  { stc := { phase := .running, startCause := cause, pendingCause := none, straps := straps, setup := setup
             energized := false }
    ctb := { tick := 0, divider := 0, theta := offsetOf straps.offsetSelect
             delta := offsetOf straps.offsetSelect, f := incrementOf setup.frequency, ramp := none, c := 0
             ownCycles := 0, commonCycles := 0 }
    syn := { out := .dark, level := 0, ramp := none, safe := none, profile := none, pendingCopy := none
             limited := false, limitedSamples := 0, dac := 0 }
    ovl := Ovl.allOff
    pls := pls
    seq := { state := if strapFault then .faulted else .idle, pointer := 0, ringStart := 0, image := none
             loop := none, progress := 0, suspendLatch := false, out0 := false, out1 := false
             in0 := false, in1 := false, faultCause := if strapFault then .strap else .none
             tally := { cycles := 0, lrms := none }, awaitOpen := false, retest := false
             markerLimit := false }
    jnt := { gate := .idle, tag := 0, mask := 0, timeout := 0, entry := 0, ownJoin := false
             withdrawRef := none, angleTest := false }
    lnk := { lineIdle := false, recessive := 0, queue := [], nextOrder := 0, shifter := none
             assembling := false, ownAborted := false
             latch := { tick := 0, thetaC := 0, fEff := 0, captured := false }, checkErrors := 0
             collisions := 0, rxCheck := false, txDrop := false, markReplaced := false, markStale := false }
    ptb := { peers := Vector.ofFn fun i => if i.val = straps.number.toNat then PeerRecord.own else PeerRecord.absent }
    lck := { state := .alone, streak := 0, clampHit := false, waiting := none }
    fbm := { sumSquares := 0, samples := 0, peakV := 0, peakI := 0, lastLrms := 0 }
    ftu := { phi := 1024, limit := setup.limit, tripCycles := 0, stepPolicy := none, streak := 0
             foldedCycles := 0, tripCause := none, folded := false, tripDue := false }
    freeCount := freeCount
    pending := pending }

/-- The end of the start sequence: the straps are sampled, the blocks take their start values, the plan
and the SETUP values are kept after RESET_PIN alone, and STC offers the STATUS with cause START (R159). -/
def State.startUp (s : State) (straps : Straps) : State :=
  let cause := s.stc.pendingCause.getD .powerOn
  let setup := if cause = .resetPin then s.stc.setup else Setup.default
  let pls := if cause = .resetPin then s.pls else Pls.empty
  (startValues straps cause setup pls s.freeCount s.pending).offerStatus .start

/-- The 4,096 crystal ticks have been counted, and the start sequence ends (R159, R160). -/
def execOscillatorCountEnd (straps : Straps) (s : State) : Host.Outcome State Fault Refusal :=
  .next (if s.stc.phase = .oscillatorCount then s.startUp straps else s)

end Sys2Proof.Machine
end

