-- ==== Sys2Proof/Machine/Dispatch.lean ====
section
/-! DEFINITION. The dispatch of a command to its meaning: one arm for each constructor of `Instr`. -/

namespace Sys2Proof.Machine

/-- The effect of one command on everything but the queue of waiting commands. -/
def exec (i : Instr) (s : State) : Host.Outcome State Fault Refusal :=
  match i with
  | .powerOn => Sys2Proof.Machine.execPowerOn s
  | .supplyLow => Sys2Proof.Machine.execSupplyLow s
  | .resetPin => Sys2Proof.Machine.execResetPin s
  | .resetReleased => Sys2Proof.Machine.execResetReleased s
  | .powerUpDelayEnd => Sys2Proof.Machine.execPowerUpDelayEnd s
  | .oscillatorCountEnd straps => Sys2Proof.Machine.execOscillatorCountEnd straps s
  | .sampleEvent inputs => Sys2Proof.Machine.execSampleEvent inputs s
  | .levelRampEnd => Sys2Proof.Machine.execLevelRampEnd s
  | .frequencyRampEnd => Sys2Proof.Machine.execFrequencyRampEnd s
  | .safeRampDownEnd => Sys2Proof.Machine.execSafeRampDownEnd s
  | .stepDurationEnd => Sys2Proof.Machine.execStepDurationEnd s
  | .markerLimit => Sys2Proof.Machine.execMarkerLimit s
  | .ownTrip => Sys2Proof.Machine.execOwnTrip s
  | .peerLost station => Sys2Proof.Machine.execPeerLost station s
  | .gatherTimeout => Sys2Proof.Machine.execGatherTimeout s
  | .lineIdle => Sys2Proof.Machine.execLineIdle s
  | .transmitStart elapsed => Sys2Proof.Machine.execTransmitStart elapsed s
  | .arbitrationLoss => Sys2Proof.Machine.execArbitrationLoss s
  | .collision => Sys2Proof.Machine.execCollision s
  | .badFrame => Sys2Proof.Machine.execBadFrame s
  | .markReceived sender mark => Sys2Proof.Machine.execMarkReceived sender mark s
  | .tripReceived sender cause slot => Sys2Proof.Machine.execTripReceived sender cause slot s
  | .joinReceived sender tag mask => Sys2Proof.Machine.execJoinReceived sender tag mask s
  | .withdrawReceived sender tag reason => Sys2Proof.Machine.execWithdrawReceived sender tag reason s
  | .statusReceived sender cause seq => Sys2Proof.Machine.execStatusReceived sender cause seq s
  | .replyFrameReceived sender kind => Sys2Proof.Machine.execReplyFrameReceived sender kind s
  | .setup req values => Sys2Proof.Machine.execSetup req values s
  | .stepWrite req slot record => Sys2Proof.Machine.execStepWrite req slot record s
  | .profileWrite req index count entries => Sys2Proof.Machine.execProfileWrite req index count entries s
  | .stepRead req slot => Sys2Proof.Machine.execStepRead req slot s
  | .run req start => Sys2Proof.Machine.execRun req start s
  | .suspend req => Sys2Proof.Machine.execSuspend req s
  | .release req => Sys2Proof.Machine.execRelease req s
  | .abort req => Sys2Proof.Machine.execAbort req s
  | .clear req => Sys2Proof.Machine.execClear req s
  | .query req => Sys2Proof.Machine.execQuery req s
  | .unreadableRequest req kind first => Sys2Proof.Machine.execUnreadableRequest req kind first s
  | .startBitSeen elapsed => Sys2Proof.Machine.execStartBitSeen elapsed s
  | .dominantBitNotIdle => Sys2Proof.Machine.execDominantBitNotIdle s
  | .ignoredFrameReceived sender => Sys2Proof.Machine.execIgnoredFrameReceived sender s
  | .ownAbortedFrameDiscarded => Sys2Proof.Machine.execOwnAbortedFrameDiscarded s

end Sys2Proof.Machine
end

