-- ==== Sys2Proof/Machine/Step.lean ====
section
/-! DEFINITION. One step of the machine: the command at the front of the queue, and on an empty queue the
passage of time. Every effect is a definition of another file. -/

namespace Sys2Proof.Machine

/-- One step: the command at the front of the queue is taken off it and executed; the queue is first in,
first out. -/
def step (s : State) : Host.Outcome State Fault Refusal :=
  match s.pending with
  | [] => .next s.quiet
  | c :: rest => exec c (s.setPending rest)

/-- The state with the command that a word spells put in front of its queue, and unchanged where the word
spells none. -/
def State.withFetchWord (s : State) (nbits w : Nat) : State :=
  match decodeTableWord nbits w with
  | some c => s.setPending (c :: s.pending)
  | none => s

end Sys2Proof.Machine
end

