-- ==== Sys2Proof/Machine/Wire.lean ====
section
/-! DEFINITION. The bytes of the station link (6.1, 6.3, 6.9): the codes, the payload of every frame a
station sends, the step record image, the check, the frame, the bytes of a request, and the command that a
received frame's bytes amount to (R96, R100, R101, R103, R116). The machine's commands are these events; this
file says which bytes on the line each of them stands for. -/

namespace Sys2Proof.Machine

/-! ### Codes: the place of a name in its row of the code table (R116) -/

/-- The sequencer states in the order of their codes. -/
def seqStates : List SeqState :=
  [.idle, .armed, .gathering, .active, .frozen, .held, .suspended, .tripped, .faulted]

/-- The output states in the order of their codes. -/
def outStates : List OutState := [.dark, .live, .falling]

/-- The lock states in the order of their codes. -/
def lockStates : List LockState := [.alone, .seeking, .locked]

/-- The peer states in the order of their codes. -/
def peerStates : List PeerState := [.absent, .present, .lost]

/-- The STATUS causes in the order of their codes. -/
def statusCauses : List StatusCause :=
  [.start, .query, .run, .taken, .started, .ended, .dry, .hold, .release, .suspend, .withdrawn, .freeze
   , .thaw, .abort, .trip, .fault, .clear]

/-- The fault causes in the order of their codes. -/
def faultCauses : List FaultCause := [.none, .strap, .duplicateNumber, .nestedLoop, .markerLimit]

/-- The start causes in the order of their codes. -/
def startCauses : List StartCause := [.powerOn, .supplyLow, .resetPin]

/-- The trip causes in the order of their codes in a TRIP. -/
def tripCauses : List TripCause := [.foldback, .followed, .peerLost]

/-- The trip causes in the order of their codes in a STATUS: 0 none, and then as in a TRIP. -/
def statusTripCauses : List (Option TripCause) := [none, some .foldback, some .followed, some .peerLost]

/-- The WITHDRAW reasons in the order of their codes. -/
def withdrawReasons : List WithdrawReason := [.timeout, .peerTrip, .peerLost, .ownTrip, .aborted]

/-- The answer codes in the order of their codes. -/
def answerCodes : List AnswerCode := [.ok, .clamped, .busy, .range, .refused, .notHeld]

/-- The end reasons in the order of their codes. -/
def endReasons : List EndReason := [.completed, .aborted, .tripped, .withdrawn]

/-- The trip policies in the order of their codes. -/
def tripPolicies : List TripPolicy := [.follow, .hold, .ignore]

/-- The overlay kinds in the order of their codes. -/
def overlayKinds : List OverlayKind := [.off, .tone, .offset, .notch, .flattop, .force]

/-- The step kinds in the order of their codes. -/
def stepKinds : List StepKind := [.normal, .loopBegin, .loopEnd]

/-- The await conditions in the order of their codes. -/
def awaits : List Await := [.none, .in0High, .in0Low, .in1High, .in1Low]

/-- The marker settings in the order of their codes. -/
def markerSettings : List MarkerSetting := [.keep, .low, .high]

/-- The code of a name in a field of `w` bits: its place in its row of the code table. -/
def codeOf {α : Type} [DecidableEq α] (row : List α) (w : Nat) (a : α) : BitVec w := BitVec.ofNat w (row.idxOf a)

/-- The name a code stands for, if it names one. -/
def nameOf {α : Type} {w : Nat} (row : List α) (c : BitVec w) : Option α := row[c.toNat]?

/-- The kind code of a frame a station sends. -/
def Payload.kindCode : Payload → Byte
  | .trip _ _ => 1
  | .withdraw _ _ => 2
  | .mark _ => 16
  | .join _ _ => 32
  | .status _ => 33
  | .result _ _ _ => 34
  | .answer _ _ _ => 58
  | .stepCopy _ _ => 59

/-- The kind code of a request. -/
def requestCode : RequestKind → Byte
  | .setup => 48
  | .stepWrite => 49
  | .profileWrite => 50
  | .stepRead => 51
  | .run => 52
  | .suspend => 53
  | .release => 54
  | .abort => 55
  | .clear => 56
  | .query => 57

/-- The request kinds. -/
def requestKinds : List RequestKind :=
  [.setup, .stepWrite, .profileWrite, .stepRead, .run, .suspend, .release, .abort, .clear, .query]

/-! ### Fields (R116: most significant byte first, signed values in two's complement) -/

/-- A two-byte field. -/
def wordBytes (x : Word16) : List Byte := [x.extractLsb' 8 8, x.extractLsb' 0 8]

/-- A two-byte field of a number. -/
def natBytes (n : Nat) : List Byte := wordBytes (BitVec.ofNat 16 n)

/-- A four-byte field. -/
def wideBytes (x : BitVec 32) : List Byte :=
  [x.extractLsb' 24 8, x.extractLsb' 16 8, x.extractLsb' 8 8, x.extractLsb' 0 8]

/-- Eight flags as one byte, bit 7 first. -/
def flagByte (b7 b6 b5 b4 b3 b2 b1 b0 : Bool) : Byte :=
  BitVec.ofBool b7 ++ BitVec.ofBool b6 ++ BitVec.ofBool b5 ++ BitVec.ofBool b4 ++ BitVec.ofBool b3
    ++ BitVec.ofBool b2 ++ BitVec.ofBool b1 ++ BitVec.ofBool b0

/-- The byte that MARK and STATUS share: lock state, sequencer state, output state. -/
def statesByte (lock : LockState) (seq : SeqState) (out : OutState) : Byte :=
  codeOf lockStates 2 lock ++ codeOf seqStates 4 seq ++ codeOf outStates 2 out

/-- The bytes of `min_lrms` and `max_lrms`, 0 when they are absent. -/
def rangeBytes (cyclesMeasured : Nat) : Option LrmsRange → List Byte
  | none => [0, 0, 0, 0]
  | some l => if cyclesMeasured = 0 then [0, 0, 0, 0] else natBytes l.lowest ++ natBytes l.highest

/-- The outcome block, which is also bytes 2..11 of a RESULT. -/
def outcomeBytes (o : StepOutcome) : List Byte :=
  [BitVec.ofNat 8 o.passes] ++ natBytes o.cyclesMeasured ++ rangeBytes o.cyclesMeasured o.lrms
    ++ natBytes o.limitedSamples ++ [BitVec.ofNat 8 o.foldedCycles]

/-! ### The step record image (R116) -/

/-- One overlay-change entry, 7 bytes. -/
def overlayBytes (e : RawOverlay) : List Byte := (e.slot ++ e.action) :: (wideBytes e.wide ++ wordBytes e.narrow)

/-- The entry that carries a stored overlay change; a parameter that a kind does not use is sent as 0. -/
def OverlayChange.toRaw (e : OverlayChange) : RawOverlay :=
  let slot : BitVec 4 := e.slot.setWidth 4
  match e.arm with
  | none => { slot := slot, action := 0, wide := 0, narrow := 0 }
  | some (.tone f b) => { slot := slot, action := 1, wide := f, narrow := b }
  | some (.offset c) => { slot := slot, action := 2, wide := 0, narrow := c }
  | some (.notch d w0 w1) => { slot := slot, action := 3, wide := w0 ++ w1, narrow := d }
  | some (.flattop b w0 w1) => { slot := slot, action := 4, wide := w0 ++ w1, narrow := b }
  | some (.force c w0 w1) => { slot := slot, action := 5, wide := w0 ++ w1, narrow := c }

/-- The byte of a `profile` part: 0..7, or 255 for none. -/
def profileByte : Option ProfileIndex → Byte
  | some i => i.setWidth 8
  | none => 255

/-- The fields of an image that carry a stored record. -/
def StepRecord.toRaw (r : StepRecord) : RawRecord :=
  { live := r.live, wrap := r.wrap, kind := codeOf stepKinds 2 r.kind, holdAfter := r.holdAfter
    notify := r.notify, unit := r.unit = .cycles, loopCount := r.loopCount, ramp := r.ramp, level := r.level
    frequency := r.frequency, startAngle := r.startAngle, duration := r.duration
    await := r.await.map (codeOf awaits 8)
    joint := r.joint.map fun j => { tag := j.tag, mask := j.mask, timeout := j.timeout }
    tripPolicy := r.tripPolicy.map (codeOf tripPolicies 8), currentLimit := r.currentLimit
    tripCycles := r.tripCycles, profile := r.profile.map profileByte
    markers := r.markers.map fun m => codeOf markerSettings 2 m.out1 ++ codeOf markerSettings 2 m.out0
    overlays := r.overlays.map OverlayChange.toRaw }

/-- The bytes of an optional part: none when it is absent. -/
def partBytes {α : Type} (f : α → List Byte) : Option α → List Byte
  | some a => f a
  | none => []

/-- The presence word: the parts present, the end reason, and the overlay-change count. -/
def presenceWord (r : RawRecord) (reason : BitVec 2) : Word16 :=
  BitVec.ofBool r.level.isSome ++ BitVec.ofBool r.frequency.isSome ++ BitVec.ofBool r.startAngle.isSome
    ++ BitVec.ofBool r.duration.isSome ++ BitVec.ofBool r.await.isSome ++ BitVec.ofBool r.joint.isSome
    ++ BitVec.ofBool r.tripPolicy.isSome ++ BitVec.ofBool r.currentLimit.isSome
    ++ BitVec.ofBool r.tripCycles.isSome ++ BitVec.ofBool r.profile.isSome ++ BitVec.ofBool r.markers.isSome
    ++ reason ++ BitVec.ofNat 3 r.overlays.length

/-- Byte 0 of an image. -/
def imageByte0 (r : RawRecord) (outcome : Bool) : Byte :=
  BitVec.ofBool r.live ++ BitVec.ofBool r.wrap ++ r.kind ++ BitVec.ofBool r.holdAfter ++ BitVec.ofBool r.notify
    ++ BitVec.ofBool outcome ++ BitVec.ofBool r.unit

/-- The optional fields and the overlay-change entries of an image, in the order of their tables. -/
def imageParts (r : RawRecord) : List Byte :=
  partBytes wordBytes r.level ++ (partBytes wordBytes r.frequency ++ (partBytes wordBytes r.startAngle
    ++ (partBytes wordBytes r.duration ++ (partBytes (fun b => [b]) r.await
    ++ (partBytes (fun j => [j.tag, j.mask, j.timeout]) r.joint ++ (partBytes (fun b => [b]) r.tripPolicy
    ++ (partBytes wordBytes r.currentLimit ++ (partBytes (fun b => [b]) r.tripCycles
    ++ (partBytes (fun b => [b]) r.profile ++ (partBytes (fun m => [(0 : BitVec 4) ++ m]) r.markers
    ++ (r.overlays.map overlayBytes).flatten))))))))))

/-- A step record image, with its outcome block where it carries one. -/
def imageBytes (r : RawRecord) (outcome : Option StepOutcome) : List Byte :=
  imageByte0 r outcome.isSome :: r.loopCount
    :: (wordBytes (presenceWord r ((outcome.map fun o => codeOf endReasons 2 o.endReason).getD 0))
    ++ (wordBytes r.ramp ++ (imageParts r ++ partBytes outcomeBytes outcome)))

/-! ### The payloads of the frames a station sends -/

/-- Four bits each, two to a byte. -/
def kindNibble (k : OverlayKind) : BitVec 4 := codeOf overlayKinds 4 k

/-- The payload of a STATUS, 30 bytes. -/
def Summary.bytes (y : Summary) : List Byte :=
  [codeOf statusCauses 8 y.cause, statesByte y.lock y.seq y.out, codeOf faultCauses 8 y.faultCause
   , codeOf startCauses 8 y.startCause, y.pointer, y.ringStart
   , (y.loop.map (·.start)).getD 0, BitVec.ofNat 8 ((y.loop.map (·.remaining)).getD 0)
   , flagByte y.limited y.folded y.clampHit y.rxCheck y.txDrop y.markReplaced y.markStale y.loop.isSome
   , flagByte y.suspendLatch y.energized y.out1 y.out0 y.in1 y.in0 y.pendingHeld y.holdsSlot]
  ++ natBytes y.level
  ++ [profileByte y.profile
   , kindNibble y.overlayKinds[0] ++ kindNibble y.overlayKinds[1]
   , kindNibble y.overlayKinds[2] ++ kindNibble y.overlayKinds[3]
   , kindNibble y.overlayKinds[4] ++ kindNibble y.overlayKinds[5]
   , kindNibble y.overlayKinds[6] ++ kindNibble y.overlayKinds[7]]
  ++ natBytes y.phi ++ wordBytes y.ownCycles ++ natBytes y.lastLrms
  ++ [BitVec.ofNat 8 y.checkErrors, BitVec.ofNat 8 y.collisions
   , codeOf peerStates 2 y.peers[0].1 ++ codeOf peerStates 2 y.peers[1].1
       ++ codeOf peerStates 2 y.peers[2].1 ++ codeOf peerStates 2 y.peers[3].1
   , codeOf peerStates 2 y.peers[4].1 ++ codeOf peerStates 2 y.peers[5].1
       ++ codeOf peerStates 2 y.peers[6].1 ++ codeOf peerStates 2 y.peers[7].1
   , flagByte y.peers[7].2 y.peers[6].2 y.peers[5].2 y.peers[4].2 y.peers[3].2 y.peers[2].2 y.peers[1].2
       y.peers[0].2
   , BitVec.ofNat 8 y.streak, codeOf statusTripCauses 8 y.tripCause]

/-- The payload bytes of a frame a station sends (R116). -/
def Payload.bytes : Payload → List Byte
  | .mark m => wordBytes m.age ++ [statesByte m.lock m.seq m.out, m.slot]
  | .trip cause slot => [codeOf tripCauses 8 cause, slot]
  | .withdraw tag reason => [tag, codeOf withdrawReasons 8 reason]
  | .join tag mask => [tag, mask]
  | .status y => y.bytes
  | .result slot live o =>
    [slot, BitVec.ofBool live ++ (0 : BitVec 5) ++ codeOf endReasons 2 o.endReason] ++ outcomeBytes o
  | .answer kind first code => [requestCode kind, first, codeOf answerCodes 8 code]
  | .stepCopy slot r => slot :: imageBytes r.toRaw r.outcome

/-! ### The check and the frame (R96, R100, R116) -/

/-- One bit of the check's division by x^16 + x^12 + x^5 + 1. -/
def crcBit (crc : Word16) (bit : Bool) : Word16 :=
  let shifted := crc <<< 1
  if crc.msb != bit then shifted ^^^ 0x1021#16 else shifted

/-- One byte of the check, most significant bit first. -/
def crcByte (crc : Word16) (b : Byte) : Word16 :=
  [b.getLsbD 7, b.getLsbD 6, b.getLsbD 5, b.getLsbD 4, b.getLsbD 3, b.getLsbD 2, b.getLsbD 1
   , b.getLsbD 0].foldl crcBit crc

/-- The check of some bytes: from all ones, with no reflection and no final inversion. -/
def crc (bytes : List Byte) : Word16 := bytes.foldl crcByte 65535

/-- The bytes a check covers: arbitration byte, kind, addressee, length and payload. -/
def coveredBytes (cls : BitVec 2) (sender : NodeNumber) (kind : Byte) (addressee : NodeNumber)
    (payload : List Byte) : List Byte :=
  (cls ++ sender ++ (0 : BitVec 2)) :: kind :: (addressee ++ (0 : BitVec 4))
    :: BitVec.ofNat 8 payload.length :: payload

/-- A frame's bytes, in the order sent after the start bit. -/
def frameBytes (cls : BitVec 2) (sender : NodeNumber) (kind : Byte) (addressee : NodeNumber)
    (payload : List Byte) : List Byte :=
  let covered := coveredBytes cls sender kind addressee payload
  covered ++ wordBytes (crc covered)

/-- The bit times a frame of payload n takes, its start bit included (R96). -/
def frameBitTimes (n : Nat) : Nat := 1 + 8 * (n + 6)

/-- The addressee of a queue entry: a MARK goes to ALL (R111). -/
def TxEntry.addressee (e : TxEntry) : NodeNumber :=
  match e.item with
  | .mark _ => 15
  | .frame a _ => a

/-- The bytes LNK sends for the frame in its shifter, under the station's strapped number (R111). -/
def Shifter.bytes (x : Shifter) (own : Station) : List Byte :=
  frameBytes (BitVec.ofNat 2 x.payload.cls) (own.setWidth 4) x.payload.kindCode x.entry.addressee
    x.payload.bytes

/-! ### Reading a payload -/

/-- One byte off the front. -/
def takeByte : List Byte → Option (Byte × List Byte)
  | b :: rest => some (b, rest)
  | [] => none

/-- A two-byte field off the front. -/
def takeWord : List Byte → Option (Word16 × List Byte)
  | h :: l :: rest => some (h ++ l, rest)
  | _ => none

/-- A four-byte field off the front. -/
def takeWide : List Byte → Option (BitVec 32 × List Byte)
  | a :: b :: c :: d :: rest => some (a ++ b ++ c ++ d, rest)
  | _ => none

/-- A `joint` field off the front. -/
def takeJoint : List Byte → Option (RawJoint × List Byte)
  | t :: m :: o :: rest => some ({ tag := t, mask := m, timeout := o }, rest)
  | _ => none

/-- A field that is read only when its presence bit calls for it. -/
def takePart {α : Type} (present : Bool) (p : List Byte → Option (α × List Byte)) (l : List Byte) :
    Option (Option α × List Byte) :=
  if present then (p l).map fun x => (some x.1, x.2) else some (none, l)

/-- One overlay-change entry off the front. -/
def takeOverlay (l : List Byte) : Option (RawOverlay × List Byte) := do
  let (b, l) ← takeByte l
  let (wide, l) ← takeWide l
  let (narrow, l) ← takeWord l
  some ({ slot := b.extractLsb' 4 4, action := b.extractLsb' 0 4, wide := wide, narrow := narrow }, l)

/-- As many entries as a count says. -/
def takeMany {α : Type} (p : List Byte → Option (α × List Byte)) : Nat → List Byte → Option (List α × List Byte)
  | 0, l => some ([], l)
  | n + 1, l => do
    let (a, l) ← p l
    let (as, l) ← takeMany p n l
    some (a :: as, l)

/-- A step record image off the front, and what its byte 0 says of an outcome block. -/
def takeImage (l : List Byte) : Option (RawRecord × Bool × List Byte) := do
  let (b, l) ← takeByte l
  let (loopCount, l) ← takeByte l
  let (w, l) ← takeWord l
  let (ramp, l) ← takeWord l
  let (level, l) ← takePart (w.getLsbD 15) takeWord l
  let (frequency, l) ← takePart (w.getLsbD 14) takeWord l
  let (startAngle, l) ← takePart (w.getLsbD 13) takeWord l
  let (duration, l) ← takePart (w.getLsbD 12) takeWord l
  let (await, l) ← takePart (w.getLsbD 11) takeByte l
  let (joint, l) ← takePart (w.getLsbD 10) takeJoint l
  let (tripPolicy, l) ← takePart (w.getLsbD 9) takeByte l
  let (currentLimit, l) ← takePart (w.getLsbD 8) takeWord l
  let (tripCycles, l) ← takePart (w.getLsbD 7) takeByte l
  let (profile, l) ← takePart (w.getLsbD 6) takeByte l
  let (markers, l) ← takePart (w.getLsbD 5) takeByte l
  let (overlays, l) ← takeMany takeOverlay (w.extractLsb' 0 3).toNat l
  some
    ({ live := b.getLsbD 7, wrap := b.getLsbD 6, kind := b.extractLsb' 4 2, holdAfter := b.getLsbD 3
       notify := b.getLsbD 2, unit := b.getLsbD 0, loopCount := loopCount, ramp := ramp, level := level
       frequency := frequency, startAngle := startAngle, duration := duration, await := await, joint := joint
       tripPolicy := tripPolicy, currentLimit := currentLimit, tripCycles := tripCycles, profile := profile
       markers := markers.map fun m => m.extractLsb' 0 4, overlays := overlays }, b.getLsbD 1, l)

/-- The record image of a STEP_WRITE. Its outcome-present bit is not read, and an outcome block is laid out in a
STEP_COPY alone, so nothing follows the overlay entries (R116; DEDUCED, safe, notes/assumptions/24.md). -/
def readImage (l : List Byte) : Option RawRecord :=
  match takeImage l with
  | some (r, _, []) => some r
  | _ => none

/-- One profile entry off the front. -/
def takeProfileEntry (l : List Byte) : Option (ProfileEntry × List Byte) := do
  let (order, l) ← takeByte l
  let (amplitude, l) ← takeWord l
  let (phase, l) ← takeWord l
  some ({ order := order, amplitude := amplitude, phase := phase }, l)

/-- A whole payload read by a reader that must leave nothing. -/
def whole {α : Type} (p : List Byte → Option (α × List Byte)) (l : List Byte) : Option α :=
  match p l with
  | some (a, []) => some a
  | _ => none

/-- The seven values of a SETUP. -/
def takeSetup (l : List Byte) : Option (RawSetup × List Byte) := do
  let (pNom, l) ← takeWord l
  let (clip, l) ← takeWord l
  let (limit, l) ← takeWord l
  let (dSafe, l) ← takeWord l
  let (foldStep, l) ← takeByte l
  let (policy, l) ← takeByte l
  let (frequency, l) ← takeWord l
  some ({ pNom := pNom, clip := clip, limit := limit, dSafe := dSafe, foldStep := foldStep, policy := policy
          frequency := frequency }, l)

/-- A readable request: its payload length fits the layout of its kind (R103). A profile entry count above 12
is read without reading entries, whatever the length. -/
def readRequest (req : Requester) (kind : RequestKind) (payload : List Byte) : Option Instr :=
  match kind with
  | .setup => (whole takeSetup payload).map (.setup req)
  | .stepWrite =>
    match payload with
    | slot :: image => (readImage image).map (.stepWrite req slot)
    | [] => none
  | .profileWrite =>
    match payload with
    | index :: count :: rest =>
      if count.toNat > 12 then some (.profileWrite req index count [])
      else (whole (takeMany takeProfileEntry count.toNat) rest).map (.profileWrite req index count)
    | _ => none
  | .stepRead => (whole takeByte payload).map (.stepRead req)
  | .run => if payload.isEmpty then some (.run req none) else (whole takeByte payload).map fun b => .run req (some b)
  | .suspend => if payload.isEmpty then some (.suspend req) else none
  | .release => if payload.isEmpty then some (.release req) else none
  | .abort => if payload.isEmpty then some (.abort req) else none
  | .clear => if payload.isEmpty then some (.clear req) else none
  | .query => if payload.isEmpty then some (.query req) else none

/-- The states of a MARK or STATUS byte, when every code of it names something. -/
def readStates (b : Byte) : Option (LockState × SeqState × OutState) := do
  let lock ← nameOf lockStates (b.extractLsb' 6 2)
  let seq ← nameOf seqStates (b.extractLsb' 2 4)
  let out ← nameOf outStates (b.extractLsb' 0 2)
  some (lock, seq, out)

/-- The eight peer states of bytes 25 and 26 of a STATUS each name something. -/
def peerCodesNamed (b : Byte) : Bool :=
  (nameOf peerStates (b.extractLsb' 6 2)).isSome && (nameOf peerStates (b.extractLsb' 4 2)).isSome
    && (nameOf peerStates (b.extractLsb' 2 2)).isSome && (nameOf peerStates (b.extractLsb' 0 2)).isSome

/-- A STATUS payload: its length and the codes of its states and causes (R101). The overlay kinds are no
state, cause, reason or policy, and are not tested: DEDUCED, notes/assumptions/25.md. -/
def readStatus (sender : Station) (payload : List Byte) : Option Instr :=
  if payload.length = 30 then do
    let cause ← nameOf statusCauses (payload.getD 0 0)
    let states ← readStates (payload.getD 1 0)
    let _ ← nameOf faultCauses (payload.getD 2 0)
    let _ ← nameOf startCauses (payload.getD 3 0)
    let _ ← nameOf statusTripCauses (payload.getD 29 0)
    if peerCodesNamed (payload.getD 25 0) && peerCodesNamed (payload.getD 26 0) then
      some (.statusReceived sender cause states.2.1)
    else none
  else none

/-- The length and the codes of a STEP_COPY payload fit its layout (R101). -/
def stepCopyFits (payload : List Byte) : Bool :=
  match payload with
  | _ :: image =>
    match takeImage image with
    | some (r, outcome, rest) =>
      rest.length = (if outcome then 10 else 0) && r.tripPolicy.all fun c => (nameOf tripPolicies c).isSome
    | none => false
  | [] => false

/-- A frame of a kind that stations send, read by its layout; none when its length or one of its codes does
not fit (R101). -/
def readStation (sender : Station) (kind : Nat) (payload : List Byte) : Option Instr :=
  match kind, payload with
  | 1, [cause, slot] => (nameOf tripCauses cause).map fun c => .tripReceived sender c slot
  | 2, [tag, reason] => (nameOf withdrawReasons reason).map fun r => .withdrawReceived sender tag r
  | 16, [h, l, states, slot] =>
    (readStates states).map fun x =>
      .markReceived sender { age := h ++ l, lock := x.1, seq := x.2.1, out := x.2.2, slot := slot }
  | 32, [tag, mask] => some (.joinReceived sender tag mask)
  | 33, p => readStatus sender p
  | 34, p => if p.length = 12 then some (.replyFrameReceived sender .result) else none
  | 58, p => if p.length = 3 then some (.replyFrameReceived sender .answer) else none
  | 59, p => if stepCopyFits p then some (.replyFrameReceived sender .stepCopy) else none
  | _, _ => none

/-- The class of a kind that stations send (R116). -/
def stationClass (kind : Nat) : Option Nat :=
  match kind with
  | 1 => some 0
  | 2 => some 0
  | 16 => some 1
  | 32 => some 2
  | 33 => some 2
  | 34 => some 2
  | 58 => some 3
  | 59 => some 3
  | _ => none

/-- The request kind of a kind code. -/
def requestOf (kind : Nat) : Option RequestKind := requestKinds.find? fun k => (requestCode k).toNat = kind

/-! ### Reading a frame -/

/-- A good frame as the station with number `own` takes it: the command it amounts to (R101, R103). -/
def readGoodFrame (own : Station) (arbitration kind addressee : Byte) (payload : List Byte) : Instr :=
  let sender : NodeNumber := arbitration.extractLsb' 2 4
  let cls := (arbitration.extractLsb' 6 2).toNat
  let target : NodeNumber := addressee.extractLsb' 4 4
  let ignored : Instr := .ignoredFrameReceived sender
  if arbitration.extractLsb' 0 2 ≠ 0 then ignored
  else
    match stationClass kind.toNat, requestOf kind.toNat with
    | some c, _ =>
      if cls = c && sender.toNat < 8 then
        (readStation (sender.setWidth 3) kind.toNat payload).getD ignored
      else ignored
    | none, some k =>
      if cls = 3 && 8 ≤ sender.toNat && sender.toNat ≤ 14 && (target = own.setWidth 4 || target = 15) then
        let req : Requester := { node := sender, toAll := target = 15 }
        (readRequest req k payload).getD (.unreadableRequest req k (payload.headD 0))
      else ignored
    | none, none => ignored

/-- A frame as the station with number `own` hears it: the command that its receipt is. Bytes that the sender
did not drive read as recessive, that is as 255 (R96); a length above 64 or a wrong check makes a bad frame
(R100). -/
def readFrame (own : Station) (bytes : List Byte) : Instr :=
  let n := (bytes.getD 3 255).toNat
  if n > 64 then .badFrame
  else
    let at' (i : Nat) : Byte := bytes.getD i 255
    let payload := (List.range n).map fun i => at' (4 + i)
    if crc (at' 0 :: at' 1 :: at' 2 :: at' 3 :: payload) = at' (4 + n) ++ at' (5 + n) then
      readGoodFrame own (at' 0) (at' 1) (at' 2) payload
    else .badFrame

/-! ### The bytes of a request -/

/-- The requester, kind and payload of a request that a service node sends. A count above 12 is sent without
entries. -/
def requestPayload : Instr → Option (Requester × RequestKind × List Byte)
  | .setup req v =>
    some (req, .setup, wordBytes v.pNom ++ (wordBytes v.clip ++ (wordBytes v.limit ++ (wordBytes v.dSafe
      ++ (v.foldStep :: v.policy :: wordBytes v.frequency)))))
  | .stepWrite req slot r => some (req, .stepWrite, slot :: imageBytes r none)
  | .profileWrite req index count entries =>
    some (req, .profileWrite, index :: count
      :: (entries.map fun e => e.order :: (wordBytes e.amplitude ++ wordBytes e.phase)).flatten)
  | .stepRead req slot => some (req, .stepRead, [slot])
  | .run req none => some (req, .run, [])
  | .run req (some slot) => some (req, .run, [slot])
  | .suspend req => some (req, .suspend, [])
  | .release req => some (req, .release, [])
  | .abort req => some (req, .abort, [])
  | .clear req => some (req, .clear, [])
  | .query req => some (req, .query, [])
  | _ => none

/-- The frame of a request to the station with number `own`. -/
def requestFrame (own : Station) (req : Requester) (kind : RequestKind) (payload : List Byte) : List Byte :=
  frameBytes 3 req.node (requestCode kind) (if req.toAll then 15 else own.setWidth 4) payload

/-- The command a frame of the station with number `sender` is, at any station that hears it (R102). -/
def Payload.heard (sender : Station) : Payload → Instr
  | .mark m => .markReceived sender m
  | .trip cause slot => .tripReceived sender cause slot
  | .withdraw tag reason => .withdrawReceived sender tag reason
  | .join tag mask => .joinReceived sender tag mask
  | .status y => .statusReceived sender y.cause y.seq
  | .result _ _ _ => .replyFrameReceived sender .result
  | .answer _ _ _ => .replyFrameReceived sender .answer
  | .stepCopy _ _ => .replyFrameReceived sender .stepCopy

end Sys2Proof.Machine
end

