-- ==== Sys2Proof/Safety.lean ====
section
/-! DEFINITION. The terms in which claims are made about the machine: when a station takes a command at once,
what a command leaves alone, the frames it offers, and the conditions that every step keeps. -/

namespace Sys2Proof

/-- The rows that are events a sample event or a taking makes due, each of which is carried out alone. -/
def Instr.isDueEvent : Instr → Bool
  | .levelRampEnd | .frequencyRampEnd | .safeRampDownEnd | .stepDurationEnd | .markerLimit | .ownTrip
  | .peerLost _ | .gatherTimeout => true
  | _ => false

/-- The rows of the reset and of the start sequence. -/
def Instr.isStartEvent : Instr → Bool
  | .powerOn | .supplyLow | .resetPin | .resetReleased | .powerUpDelayEnd | .oscillatorCountEnd _ => true
  | _ => false

/-- The rows that are the end of a frame on the line, which a station takes only of a frame it assembles (R95). -/
def Instr.isFrame : Instr → Bool
  | .badFrame | .ownAbortedFrameDiscarded | .markReceived _ _ | .tripReceived _ _ _ | .joinReceived _ _ _
  | .withdrawReceived _ _ _ | .statusReceived _ _ _ | .replyFrameReceived _ _ | .ignoredFrameReceived _
  | .setup _ _ | .stepWrite _ _ _ | .profileWrite _ _ _ _ | .stepRead _ _ | .run _ _ | .suspend _ | .release _
  | .abort _ | .clear _ | .query _ | .unreadableRequest _ _ _ => true
  | _ => false

/-- The station number of the sender of a frame that a station takes for its own when it sent it (R99). -/
def Instr.stationFrom : Instr → Option Station
  | .markReceived n _ | .tripReceived n _ _ | .joinReceived n _ _ | .withdrawReceived n _ _ | .statusReceived n _ _
  | .replyFrameReceived n _ => some n
  | _ => none

end Sys2Proof

namespace Sys2Proof.Machine

/-! ### Taking a command -/

/-- A running station with nothing due: it takes a command at once. -/
def State.ready (s : State) : Prop := s.running = true ∧ s.due = false

/-- A ready station whose LNK is assembling a frame: it takes the frame's end at once (R95). -/
def State.hearing (s : State) : Prop := s.ready ∧ s.lnk.assembling = true

/-! ### What falls on the next sample event -/

/-- SEQ holds no step whose gates a start sample could pass, and no test of a step just started is left
(R76, R89). -/
def State.startsNothing (s : State) : Prop :=
  s.seq.state ≠ .armed ∧ s.seq.state ≠ .gathering ∧ s.seq.retest = false

/-- The next sample event is the start sample of the step r (R76, R132). -/
def State.startsOn (s : State) (r : StepRecord) : Prop :=
  s.seq.image = some r ∧ angleMet r.startAngle s.ctb.nextAdvance = true
    ∧ ((s.seq.state = .armed ∧ s.seq.awaitOpen = true ∧ r.joint = none)
      ∨ (s.seq.state = .gathering ∧ s.jnt.gate = .complete
          ∧ (s.jnt.angleTest = true ∨ s.ctb.nextAdvance.commonWrap = true)))

/-- The next sample event is no start sample. -/
def State.noStart (s : State) : Prop := ∀ r, ¬ s.startsOn r

/-- The next sample event closes a folded cycle that makes an own trip due (R150, R151). -/
def State.tripAhead (s : State) : Prop :=
  s.ctb.nextAdvance.ownWrap = true ∧ s.syn.out ≠ .dark ∧ s.ftu.phi < 1024 ∧ s.ftu.tripCycles ≠ 0
    ∧ s.ftu.tripCycles ≤ min 255 (s.ftu.streak + 1) ∧ s.seq.state ≠ .tripped ∧ s.seq.state ≠ .faulted

/-- The next sample event ages the record of an expected peer to a loss (R122). -/
def State.lossAhead (s : State) : Prop :=
  s.ctb.nextAdvance.commonWrap = true
    ∧ ∃ n, s.expectedPeer n = true ∧ (s.ptb.peer n).state = .present ∧ 7 ≤ (s.ptb.peer n).age

/-- The next sample event ends the step in effect by its duration, unless the test of R89 freezes the step first
(R78, R79, R164). -/
def State.endsNext (s : State) : Prop :=
  s.seq.state = .active ∧ ¬ (s.seq.retest = true ∧ s.troubled = true)
    ∧ ∃ r, s.seq.image = some r
      ∧ (r.duration.getD 0).toNat
        ≤ s.seq.progress + (if r.unit = .samples ∨ s.ctb.nextAdvance.ownWrap = true then 1 else 0)

/-- An own trip falls on the next sample event together with a start sample, the opening of a gate or the end of a
step that the event may bring: the manual gives no order of the two (R49, R91, R144). Everywhere else the trip comes
after the cycle is counted (R151). -/
def State.tripDisputed (s : State) : Prop :=
  s.tripAhead ∧ (s.seq.state = .armed ∨ s.seq.state = .gathering ∨ s.endsNext)

/-- On the next sample event no own trip or loss falls together with SEQ's work of that sample in an order that the
manual leaves open (R49, R91, R144, R155, R164). -/
def State.undisputed (s : State) : Prop := ¬ s.tripDisputed ∧ ¬ (s.mayWork = true ∧ s.lossAhead)

/-- No error that a phase capture could be made with stands in the table, or the output is not DARK (R126). -/
def State.noCapture (s : State) : Prop :=
  s.syn.out ≠ .dark ∨ ∀ n : Station, s.expectedPeer n = true → n.toNat < s.own.toNat →
    (s.ptb.peer n).fresh = true → (s.ptb.peer n).error.natAbs ≤ 2 ^ 26

/-! ### What a command leaves alone -/

/-- The twelve blocks of section 0.2. -/
inductive Block where
  | stc | ctb | syn | ovl | pls | seq | jnt | lnk | ptb | lck | fbm | ftu
  deriving DecidableEq, Repr

/-- The two states agree on a block. -/
def State.sameAt (s t : State) : Block → Prop
  | .stc => t.stc = s.stc
  | .ctb => t.ctb = s.ctb
  | .syn => t.syn = s.syn
  | .ovl => t.ovl = s.ovl
  | .pls => t.pls = s.pls
  | .seq => t.seq = s.seq
  | .jnt => t.jnt = s.jnt
  | .lnk => t.lnk = s.lnk
  | .ptb => t.ptb = s.ptb
  | .lck => t.lck = s.lck
  | .fbm => t.fbm = s.fbm
  | .ftu => t.ftu = s.ftu

/-- The second state differs from the first in the listed blocks alone: every other block, the count of drawn
orders and the queue of waiting commands are unchanged. -/
def State.onlyChanges (s t : State) (blocks : List Block) : Prop :=
  (∀ b, b ∉ blocks → s.sameAt t b) ∧ t.freeCount = s.freeCount ∧ t.pending = s.pending

/-! ### The frames a command offers -/

/-- A frame as a claim names it: its kind and the fields that tell what it reports. -/
inductive FrameName where
  | mark (instant : Tick)
  | trip (cause : TripCause) (slot : Slot)
  | withdraw (tag : Tag) (reason : WithdrawReason)
  | join (tag : Tag) (mask : Mask)
  | status (cause : StatusCause) (seq : SeqState)
  | result (slot : Slot) (live : Bool) (reason : EndReason)
  | answer (kind : RequestKind) (first : Byte) (code : AnswerCode)
  | stepCopy (slot : Slot)
  deriving DecidableEq, Repr

/-- The name of an offered frame. -/
def TxItem.name : TxItem → FrameName
  | .mark i => .mark i
  | .frame _ (.mark m) => .mark (BitVec.ofNat 32 m.age.toNat)
  | .frame _ (.trip c slot) => .trip c slot
  | .frame _ (.withdraw t r) => .withdraw t r
  | .frame _ (.join t m) => .join t m
  | .frame _ (.status y) => .status y.cause y.seq
  | .frame _ (.result slot live o) => .result slot live o.endReason
  | .frame _ (.answer k f c) => .answer k f c
  | .frame _ (.stepCopy slot _) => .stepCopy slot

/-- The frames go to LNK one after another (R111). -/
def Lnk.offers (l : Lnk) (items : List TxItem) : Lnk := items.foldl Lnk.offer l

/-- LNK after the frame on the line has ended: it counts recessive bits from 0 and holds no frame (R95). -/
def Lnk.frameEnded (l : Lnk) : Lnk :=
  { l with lineIdle := false, recessive := 0, assembling := false, ownAborted := false }

/-- The state summary y has the cause given and, for the rest, reports the state as it stands, field by field
(R113). -/
def State.reports (s : State) (cause : StatusCause) (y : Summary) : Prop :=
  y = { cause := cause, seq := s.seq.state, out := s.syn.out, lock := s.lck.state
        faultCause := s.seq.faultCause, startCause := s.stc.startCause
        pointer := s.seq.pointer, ringStart := s.seq.ringStart, loop := s.seq.loop
        holdsSlot := y.holdsSlot, suspendLatch := s.seq.suspendLatch
        limited := s.syn.limited, folded := s.ftu.folded, clampHit := s.lck.clampHit
        rxCheck := s.lnk.rxCheck, txDrop := s.lnk.txDrop
        markReplaced := s.lnk.markReplaced, markStale := s.lnk.markStale, energized := s.stc.energized
        out0 := s.seq.out0, out1 := s.seq.out1, in0 := s.seq.in0, in1 := s.seq.in1
        level := s.syn.level, profile := s.syn.profile, pendingHeld := y.pendingHeld
        overlayKinds := y.overlayKinds, phi := s.ftu.phi, tripCause := s.ftu.tripCause
        ownCycles := s.ctb.ownCycles, lastLrms := s.fbm.lastLrms
        checkErrors := s.lnk.checkErrors, collisions := s.lnk.collisions
        peers := y.peers, streak := s.lck.streak }
    ∧ (y.holdsSlot = true ↔ s.seq.state = .armed ∨ s.seq.state = .gathering ∨ s.seq.state = .active
        ∨ s.seq.state = .frozen ∨ s.seq.state = .held)
    ∧ (y.pendingHeld = true ↔ s.syn.pendingCopy ≠ none)
    ∧ (∀ i : OverlayIndex, y.overlayKinds[i.toNat]? = some (s.ovl.slot i).kind)
    ∧ ∀ n : Station, y.peers[n.toNat]? = some ((s.ptb.peer n).state, (s.ptb.peer n).tripped)

/-- From one state of LNK to another by offering frames with these names, in this order. -/
def Lnk.offersNamed (l l' : Lnk) (names : List FrameName) : Prop :=
  ∃ items, l' = l.offers items ∧ items.map TxItem.name = names

/-- A start bit at a time the given number of ticks after the latest timed event: LNK assembles a frame, with the
start tick, the common phase and the effective increment latched (R13, R95, R119). -/
def State.startBitAfter (s : State) (elapsed : Nat) (l : Lnk) : State :=
  (s.setCtb { s.ctb with tick := s.ctb.tick + BitVec.ofNat 32 elapsed, divider := s.ctb.divider + elapsed }).setLnk
    { l with
      lineIdle := false, recessive := 0, assembling := true, ownAborted := false
      latch := { tick := s.ctb.tick + BitVec.ofNat 32 elapsed
                 thetaC := s.ctb.theta - s.ctb.delta
                   + BitVec.ofNat 32 ((s.ctb.divider + elapsed) * s.ctb.fEff / 1600)
                 fEff := s.ctb.fEff, captured := false } }

/-- The names of a request's answer: one ANSWER when it was addressed to the station, none when it was
addressed to ALL (R103). -/
def answerNames (r : Requester) (kind : RequestKind) (first : Byte) (code : AnswerCode) :
    List FrameName :=
  if r.toAll then [] else [.answer kind first code]

/-- The gate has opened on a joint step, JNT offering the frame of this name: WITHDRAW with PEER_TRIP when a masked
peer's record shows the tripped flag, otherwise WITHDRAW with PEER_LOST when one is LOST, and otherwise JOIN
(R129). -/
def State.opensGate (s t : State) (j : JointPart) (name : FrameName) : Prop :=
  let masked (p : PeerRecord → Prop) := ∃ n : Station, n ≠ s.own ∧ maskHas j.mask n = true ∧ p (s.ptb.peer n)
  let tripped := masked fun r => r.tripped = true
  let lost := masked fun r => r.state = .lost
  ∃ gate reason,
    t.jnt = { gate := gate, tag := j.tag, mask := j.mask, timeout := j.timeout.toNat, entry := t.ctb.commonCycles
              ownJoin := false, withdrawRef := reason, angleTest := false }
      ∧ (tripped → gate = .withdrawing ∧ reason = some .peerTrip ∧ name = .withdraw j.tag .peerTrip)
      ∧ (¬ tripped → lost → gate = .withdrawing ∧ reason = some .peerLost ∧ name = .withdraw j.tag .peerLost)
      ∧ (¬ tripped → ¬ lost → gate = .opened ∧ reason = none ∧ name = .join j.tag j.mask)

/-- The output falls, from whatever it is: a LIVE one enters FALLING at its level with the safe ramp-down, every
overlay OFF and no ramp; a FALLING or DARK one is left as it is (R9, R23, R33, R49). -/
def State.fallsTo (s t : State) : Prop :=
  (s.syn.out = .live →
      t.syn = { s.syn with out := .falling, ramp := none
                           safe := some { start := s.syn.level, length := s.stc.setup.dSafe, index := 0 } }
        ∧ (∀ i, t.ovl.slot i = .off) ∧ t.ctb = { s.ctb with ramp := none })
    ∧ (s.syn.out ≠ .live → t.syn = s.syn ∧ t.ovl = s.ovl ∧ t.ctb = s.ctb)

/-- SEQ lets go of whatever it holds and comes to rest in state `q`, and the output falls: from ACTIVE and FROZEN the
step is written back with `live` no and the pointer moves to the next slot; from HELD the pointer moves; from
GATHERING it is kept, JNT removes its JOIN and offers WITHDRAW, and its gate is IDLE; from the other states it is
kept. LNK, in the state `heard` before, is offered `first`, then any RESULT or WITHDRAW, then `last`. No other block
but those of `also` changes (R87, R91, R92, R137). -/
def State.dropsTo (s t : State) (heard : Lnk) (first last : List FrameName) (reason : EndReason)
    (why : WithdrawReason) (q : SeqState) (also : List Block) : Prop :=
  let wrapped (r : StepRecord) : Slot := if r.wrap then s.seq.ringStart else s.seq.pointer + 1
  let changed := [.syn, .ovl, .ctb, .seq, .lnk] ++ also
  s.fallsTo t ∧ t.seq.state = q ∧ t.seq.loop = none ∧ t.seq.suspendLatch = false ∧ t.seq.image = none
    ∧ t.seq.out0 = s.seq.out0 ∧ t.seq.out1 = s.seq.out1 ∧ t.seq.ringStart = s.seq.ringStart
    ∧ (∀ r, s.seq.image = some r → (s.seq.state = .active ∨ s.seq.state = .frozen) →
        t.pls = s.pls.setSlot s.seq.pointer
            ((s.pls.slot s.seq.pointer).written false reason
              { cycles := s.seq.tally.cycles, lrms := s.seq.tally.lrms, limited := s.syn.limitedSamples
                folded := s.ftu.foldedCycles })
          ∧ t.seq.pointer = wrapped r
          ∧ heard.offersNamed t.lnk
              (first ++ (if r.notify then [.result s.seq.pointer false reason] else []) ++ last)
          ∧ s.onlyChanges t (.pls :: changed))
    ∧ (∀ r, s.seq.image = some r → s.seq.state = .held →
        t.seq.pointer = wrapped r ∧ heard.offersNamed t.lnk (first ++ last) ∧ s.onlyChanges t changed)
    ∧ ((s.seq.state = .armed ∨ s.seq.state = .suspended ∨ s.seq.state = .idle ∨ s.seq.state = .tripped) →
        t.seq.pointer = s.seq.pointer ∧ heard.offersNamed t.lnk (first ++ last) ∧ s.onlyChanges t changed)
    ∧ (s.seq.state = .gathering → s.jnt.gate ≠ .idle →
        t.seq.pointer = s.seq.pointer ∧ t.jnt = { s.jnt with gate := .idle }
          ∧ (∃ l, heard.offersNamed l first
              ∧ (l.remove (Payload.isJoinFor s.jnt.tag)).offersNamed t.lnk (.withdraw s.jnt.tag why :: last))
          ∧ s.onlyChanges t (.jnt :: changed))

/-- FTU trips the station with a cause: TRIP, the fall, SEQ to TRIPPED and STATUS TRIP (R91, R151, R155). -/
def State.tripsTo (s t : State) (heard : Lnk) (cause : TripCause) (also : List Block) : Prop :=
  s.dropsTo t heard [.trip cause s.seq.pointer] [.status .trip .tripped] .tripped .ownTrip .tripped (.ftu :: also)

/-- SEQ faults with a cause, STATUS FAULT last (R92). -/
def State.faultsTo (s t : State) (heard : Lnk) (cause : FaultCause) : Prop :=
  s.dropsTo t heard [] [.status .fault .faulted] .aborted .aborted .faulted [] ∧ t.seq.faultCause = cause

/-! ### Cycles counted to a step -/

/-- The cycle that the sample's own wrap closes is counted to the step in effect, and to its folded count when Φ is
below 1,024 (R144, R145, R150). -/
def State.countsCycle (s t : State) : Prop :=
  let level := s.fbm.closedLrms s.stc.setup.pNom
  t.seq.tally.cycles = min 65535 (s.seq.tally.cycles + 1)
    ∧ (s.seq.tally.lrms = none → t.seq.tally.lrms = some { lowest := level, highest := level })
    ∧ (∀ a b, s.seq.tally.lrms = some { lowest := a, highest := b } →
        t.seq.tally.lrms = some { lowest := min a level, highest := max b level })
    ∧ t.ftu.foldedCycles
        = if s.syn.out ≠ .dark ∧ s.ftu.phi < 1024 then min 255 (s.ftu.foldedCycles + 1) else s.ftu.foldedCycles

/-- No cycle is counted to a step. -/
def State.countsNoCycle (s t : State) : Prop :=
  t.seq.tally = s.seq.tally ∧ t.ftu.foldedCycles = s.ftu.foldedCycles

/-! ### Records as a STEP_WRITE sends them -/

/-- A part that is present satisfies a test. -/
def partIs {α : Type} (part : Option α) (p : α → Prop) : Prop := ∃ a, part = some a ∧ p a

/-- An overlay entry as R62 stores it. -/
def storedOverlay (e : RawOverlay) : OverlayChange :=
  let capped (top : Word16) : Word16 := if top.toNat < e.narrow.toNat then top else e.narrow
  let code : Code := if e.narrow = 0x8000 then 0x8001 else e.narrow
  let w0 : Angle := e.wide.extractLsb' 16 16
  let w1 : Angle := e.wide.extractLsb' 0 16
  { slot := e.slot.extractLsb' 0 3
    arm := match e.action.toNat with
      | 0 => none
      | 1 => some (.tone (if 250000 < e.wide.toNat then 250000 else e.wide) (capped 5000))
      | 2 => some (.offset code)
      | 3 => some (.notch (capped 10000) w0 w1)
      | 4 => some (.flattop (capped 10000) w0 w1)
      | _ => some (.force code w0 w1) }

/-- Some parameter of an overlay entry lies outside its stored range (R62). -/
def overlayOutOfRange (e : RawOverlay) : Prop :=
  (e.action = 1 ∧ (250000 < e.wide.toNat ∨ 5000 < e.narrow.toNat))
    ∨ ((e.action = 3 ∨ e.action = 4) ∧ 10000 < e.narrow.toNat)
    ∨ ((e.action = 2 ∨ e.action = 5) ∧ e.narrow = 0x8000)

/-- The content of a STEP_WRITE is refused with RANGE at a station of this number in a source of this count (R61). -/
def recordRefused (own : Station) (count : Nat) (r : RawRecord) : Prop :=
  partIs r.joint (fun j => maskHas j.mask own = false ∨ ∃ n : Station, maskHas j.mask n = true ∧ count ≤ n.toNat)
    ∨ (∃ e ∈ r.overlays, 7 < e.slot.toNat) ∨ partIs r.profile (fun p => 7 < p.toNat ∧ p ≠ 255)
    ∨ 4 < r.overlays.length ∨ r.kind = 3 ∨ partIs r.await (fun a => 4 < a.toNat)
    ∨ partIs r.tripPolicy (fun p => 2 < p.toNat)
    ∨ partIs r.markers (fun m => m.extractLsb' 0 2 = 3 ∨ m.extractLsb' 2 2 = 3)
    ∨ ∃ e ∈ r.overlays, 5 < e.action.toNat

/-- Some value of a STEP_WRITE's record lies outside its stored range: the first eight lines of R62. -/
def recordOutOfRange (r : RawRecord) : Prop :=
  partIs r.level (fun l => 15000 < l.toNat) ∨ partIs r.frequency (fun f => f.toNat < 4000 ∨ 7000 < f.toNat)
    ∨ partIs r.joint (fun j => j.timeout = 0) ∨ partIs r.currentLimit (fun c => c = 0 ∨ 32767 < c.toNat)
    ∨ ∃ e ∈ r.overlays, overlayOutOfRange e

/-- A NORMAL record as R53–R55 and R62 store it. -/
def storedRecord (r : RawRecord) : StepRecord :=
  { live := r.live, wrap := r.wrap, kind := .normal, loopCount := 0
    level := r.level.map fun l => if 15000 < l.toNat then 15000 else l
    frequency := r.frequency.map fun f => if f.toNat < 4000 then 4000 else if 7000 < f.toNat then 7000 else f
    ramp := r.ramp, startAngle := r.startAngle, duration := some (r.duration.getD 0)
    unit := if r.duration.isSome ∧ r.unit = true then .cycles else .samples
    await := some ((r.await.bind (nameOf awaits)).getD .none)
    joint := r.joint.map fun j : RawJoint =>
      { tag := j.tag, mask := j.mask, timeout := if j.timeout = 0 then (1 : Byte) else j.timeout }
    tripPolicy := r.tripPolicy.bind (nameOf tripPolicies)
    currentLimit := r.currentLimit.map fun c => if c = 0 then 1 else if 32767 < c.toNat then 32767 else c
    tripCycles := r.tripCycles
    profile := r.profile.map fun p => if p = 255 then none else some (p.extractLsb' 0 3)
    markers := r.markers.map fun m =>
      { out0 := (nameOf markerSettings (m.extractLsb' 0 2)).getD .keep
        out1 := (nameOf markerSettings (m.extractLsb' 2 2)).getD .keep }
    holdAfter := r.holdAfter, notify := r.notify, overlays := r.overlays.map storedOverlay, outcome := none }

/-! ### Conditions every step keeps -/

/-- The order of two queue entries: by class, and within a class by entry order (R105). -/
def TxEntry.before (a b : TxEntry) : Prop := a.cls < b.cls ∨ (a.cls = b.cls ∧ a.order < b.order)

/-- LNK's queue as R105 has it: at most 8 entries, at most one MARK, in order of class and then of entry
order; the MARK alone is of class TIMING; every order given out is below the next one; and the frame in the
shifter was entered before every queued frame of its class, so that it may return to the head of its class
(R108). -/
def Lnk.ordered (l : Lnk) : Prop :=
  l.queue.length ≤ 8 ∧ (l.queue.filter TxEntry.isMark).length ≤ 1 ∧ l.queue.Pairwise TxEntry.before
    ∧ (∀ e ∈ l.queue, e.order < l.nextOrder)
    ∧ (∀ e ∈ l.queue, e.cls = 1 → e.isMark = true)
    ∧ (∀ x, l.shifter = some x →
        x.entry.order < l.nextOrder ∧ (x.entry.cls = 1 → x.entry.isMark = true)
          ∧ ∀ e ∈ l.queue, e.cls = x.entry.cls → x.entry.order < e.order)

/-- The two error counters of LNK stay within 0..255 (R98, R100). -/
def Lnk.countersFit (l : Lnk) : Prop := l.checkErrors ≤ 255 ∧ l.collisions ≤ 255

/-- A level lies within 0..15,000 (R20). -/
def levelFits (n : Nat) : Prop := n ≤ 15000

/-- A frequency lies within 4,000..7,000 cHz (R7). -/
def frequencyFits (n : Nat) : Prop := 4000 ≤ n ∧ n ≤ 7000

/-- A base increment lies within 6,710,886..11,744,051 (R7). -/
def incrementFits (n : Nat) : Prop := 6710886 ≤ n ∧ n ≤ 11744051

/-- The stored ranges of an overlay entry's parameters (R62). -/
def OverlayArm.fits : OverlayArm → Prop
  | .tone f b => f.toNat ≤ 250000 ∧ b.toNat ≤ 5000
  | .offset c => c ≠ 0x8000
  | .notch d _ _ => d.toNat ≤ 10000
  | .flattop b _ _ => b.toNat ≤ 10000
  | .force c _ _ => c ≠ 0x8000

/-- A stored record's level, frequency, gather timeout, current limit and overlay parameters lie within their stored
ranges, and it holds at most four overlay entries (R61, R62). -/
def StepRecord.fits (r : StepRecord) : Prop :=
  (∀ l, r.level = some l → levelFits l.toNat) ∧ (∀ f, r.frequency = some f → frequencyFits f.toNat)
    ∧ (∀ j, r.joint = some j → j.timeout ≠ 0)
    ∧ (∀ c, r.currentLimit = some c → 1 ≤ c.toNat ∧ c.toNat ≤ 32767)
    ∧ (∀ e ∈ r.overlays, ∀ a, e.arm = some a → a.fits) ∧ r.overlays.length ≤ 4

/-- A profile holds at most 12 entries, each with an order in 2..50 and an amplitude of at most 400 (R58, R64). -/
def profileFits (l : List ProfileEntry) : Prop :=
  l.length ≤ 12 ∧ ∀ e ∈ l, 2 ≤ e.order.toNat ∧ e.order.toNat ≤ 50 ∧ e.amplitude.toNat ≤ 400

/-- Every record of the ring, the image SEQ holds, every profile and the pending copy lie within their stored
ranges. -/
def State.planFits (s : State) : Prop :=
  (∀ i, (s.pls.slot i).fits) ∧ (∀ r, s.seq.image = some r → r.fits) ∧ (∀ i, profileFits (s.pls.profile i))
    ∧ ∀ i l, s.syn.pendingCopy = some (i, l) → profileFits l

/-- The envelope level, and every value its ramps run between, lie within 0..15,000 (R20). -/
def State.levelsFit (s : State) : Prop :=
  levelFits s.syn.level ∧ (∀ r, s.syn.ramp = some r → levelFits r.start ∧ levelFits r.target)
    ∧ ∀ g, s.syn.safe = some g → levelFits g.start

/-- The base increment, and every value its ramp runs between, lie within their range; the SETUP frequency
lies within its own; and |C| is at most F >> 10 (R7, R10, R162). -/
def State.incrementsFit (s : State) : Prop :=
  incrementFits s.ctb.f ∧ (∀ r, s.ctb.ramp = some r → incrementFits r.start ∧ incrementFits r.target)
    ∧ frequencyFits s.stc.setup.frequency ∧ s.ctb.c.natAbs ≤ s.ctb.f >>> 10

/-- Every value the manual bounds on the output path lies in its range. -/
def State.outputFits (s : State) : Prop := s.planFits ∧ s.levelsFit ∧ s.incrementsFit

/-- The fold factor lies within 64..1,024 (R149). -/
def State.foldFits (s : State) : Prop := 64 ≤ s.ftu.phi ∧ s.ftu.phi ≤ 1024

/-- The lock streak lies within 0..4, and is 0 while the lock is ALONE (R123, R125). -/
def State.lockFits (s : State) : Prop := s.lck.streak ≤ 4 ∧ (s.lck.state = .alone → s.lck.streak = 0)

/-- The station's own peer record is PRESENT with error 0, fresh, at age 0 (R117). -/
def State.ownRecordStands (s : State) : Prop :=
  (s.ptb.peer s.own).state = .present ∧ (s.ptb.peer s.own).error = 0 ∧ (s.ptb.peer s.own).fresh = true
    ∧ (s.ptb.peer s.own).age = 0

/-- The peers outside the station count: never LOST, and with no error that could steer the lock (R119, R122). -/
def State.strangersStand (s : State) : Prop :=
  ∀ n : Station, ¬ n.toNat < s.count → (s.ptb.peer n).state ≠ .lost ∧ ((s.ptb.peer n).fresh = true → n = s.own)

/-- The table of section 5.1 for a running station: with a step in hand or SUSPENDED the output is LIVE; TRIPPED
or FAULTED it is FALLING or DARK. -/
def State.outputMatches (s : State) : Prop :=
  s.running = true →
    ((holdsSlot s.seq.state = true ∨ s.seq.state = .suspended) → s.syn.out = .live)
      ∧ ((s.seq.state = .tripped ∨ s.seq.state = .faulted) → s.syn.out ≠ .live)

/-- SEQ holds a step image only in a state that holds a current slot; and it holds one in every such state,
but for a taking that has read its 1,024th marker and whose fault is due (R69, R73). -/
def State.imageMatches (s : State) : Prop :=
  s.running = true →
    (s.seq.image.isSome = true → holdsSlot s.seq.state = true)
      ∧ (holdsSlot s.seq.state = true → s.seq.markerLimit = false → s.seq.image.isSome = true)
      ∧ (s.seq.markerLimit = true → s.seq.image = none ∧ s.syn.out = .live ∧ s.jnt.gate = .idle
          ∧ (s.seq.state = .idle ∨ s.seq.state = .suspended ∨ s.seq.state = .active ∨ s.seq.state = .held))

/-- The gate is open, withdrawing or complete exactly while SEQ is GATHERING (R75, R137). -/
def State.gateMatches (s : State) : Prop :=
  s.running = true → (s.jnt.gate ≠ .idle ↔ s.seq.state = .gathering)

/-- Every armed overlay belongs to an output that is LIVE (R49). -/
def State.overlaysMatch (s : State) : Prop := s.syn.out ≠ .live → ∀ i, s.ovl.slot i = .off

/-- The states of SEQ, JNT, SYN and OVL stand to one another as the manual's tables have them. -/
def State.consistent (s : State) : Prop :=
  s.outputMatches ∧ s.imageMatches ∧ s.gateMatches ∧ s.overlaysMatch

/-- While a reset is asserted or the start sequence runs: the port presents 0, the output is DARK, the marker
outputs are low, and LNK holds nothing to send (R115, R158). -/
def State.quietInReset (s : State) : Prop :=
  s.running = false →
    s.syn.dac = 0 ∧ s.syn.out = .dark ∧ s.seq.out0 = false ∧ s.seq.out1 = false ∧ s.lnk.queue = []
      ∧ s.lnk.shifter = none ∧ s.lnk.assembling = false ∧ s.jnt.gate = .idle ∧ s.ovl = Ovl.allOff

end Sys2Proof.Machine
end

