-- ==== Sys2Proof/WellFormed.lean ====
section
/-! DEFINITION. Which commands the outside can send: the ranges of the operands that their types do not
already bound. A command that fails the check spells nothing the station can meet (a strap count of 0,
a request from a station number, a time past the next sample event). -/

namespace Sys2Proof

/-- A requesting node is a service node, 8..14 (0.5.8, R101). -/
def Requester.wellFormed (r : Requester) : Bool := 8 ≤ r.node.toNat && r.node.toNat ≤ 14

/-- The station count is strapped in 1..8 (0.5.8, 11.3). -/
def Straps.wellFormed (s : Straps) : Bool := 1 ≤ s.count && s.count ≤ 8

/-- The overlay-change count is a three-bit field (R116). -/
def RawRecord.wellFormed (r : RawRecord) : Bool := r.overlays.length ≤ 7

/-- A count of up to 12 is followed by that many entries, and a greater one is read without reading
entries (R116). -/
def profileEntriesWellFormed (count : Byte) (entries : List ProfileEntry) : Bool :=
  if count.toNat ≤ 12 then entries.length = count.toNat else entries.isEmpty

/-- A sample event comes every 1,600 ticks, so less than that passes between two events (R3). -/
def elapsedWellFormed (elapsed : Nat) : Bool := elapsed < 1600

/-- The operand ranges of every command. -/
def Instr.wellFormed : Instr → Bool
  | .powerOn => true
  | .supplyLow => true
  | .resetPin => true
  | .resetReleased => true
  | .powerUpDelayEnd => true
  | .oscillatorCountEnd straps => straps.wellFormed
  | .sampleEvent _ => true
  | .levelRampEnd => true
  | .frequencyRampEnd => true
  | .safeRampDownEnd => true
  | .stepDurationEnd => true
  | .markerLimit => true
  | .ownTrip => true
  | .peerLost _ => true
  | .gatherTimeout => true
  | .lineIdle => true
  | .transmitStart elapsed => elapsedWellFormed elapsed
  | .arbitrationLoss => true
  | .collision => true
  | .badFrame => true
  | .markReceived _ _ => true
  | .tripReceived _ _ _ => true
  | .joinReceived _ _ _ => true
  | .withdrawReceived _ _ _ => true
  | .statusReceived _ _ _ => true
  | .replyFrameReceived _ _ => true
  | .setup req _ => req.wellFormed
  | .stepWrite req _ record => req.wellFormed && record.wellFormed
  | .profileWrite req _ count entries => req.wellFormed && profileEntriesWellFormed count entries
  | .stepRead req _ => req.wellFormed
  | .run req _ => req.wellFormed
  | .suspend req => req.wellFormed
  | .release req => req.wellFormed
  | .abort req => req.wellFormed
  | .clear req => req.wellFormed
  | .query req => req.wellFormed
  | .unreadableRequest req _ _ => req.wellFormed
  | .startBitSeen elapsed => elapsedWellFormed elapsed
  | .dominantBitNotIdle => true
  | .ignoredFrameReceived _ => true
  | .ownAbortedFrameDiscarded => true

end Sys2Proof
end

