-- ==== Sys2Proof/Certificates/Slice0/Obligations.lean ====
section
/-! DEFINITION. The statements for the provers. -/

open Sys2Proof Sys2Proof.Machine

/-! ### The step -/

/-- A step takes the command at the front of the queue and executes it with the queue's rest. -/
def Obligations.StepTakesTheFrontCommand : Prop :=
  ∀ (s : State) (c : Instr) (rest : List Instr),
    s.pending = c :: rest → step s = exec c (s.setPending rest)

/-- The model's choice (notes/assumptions/4.md): on an empty queue a running station carries out what is due, and
otherwise lets one tick pass, which tick counter and divider count together (R2, R3), up to the tick before the next
sample event; a station that does not run stays as it is. -/
def Obligations.EmptyQueueIsIdleOrOneTick : Prop :=
  ∀ s : State, s.pending = [] →
    (s.running = false → step s = .next s)
      ∧ (s.running = true → s.due = true → step s = .next s.settle)
      ∧ (s.ready → s.ctb.divider < 1599 →
          step s = .next (s.setCtb { s.ctb with tick := s.ctb.tick + 1, divider := s.ctb.divider + 1 }))
      ∧ (s.ready → s.ctb.divider = 1599 → step s = .next s)

/-- The model's choice (notes/assumptions/3.md): a command that is no due event and no stage of the start sequence,
the assertion of a reset included, carries out what is due first, and then finds nothing due. -/
def Obligations.DueEventsComeFirst : Prop :=
  ∀ (c : Instr) (s : State), c.isDueEvent = false →
    (c.isStartEvent = false ∨ c = .powerOn ∨ c = .supplyLow ∨ c = .resetPin) → s.running = true →
    s.settle.ready ∧ exec c s = exec c s.settle

/-- While a reset is asserted and during the start sequence the station takes no sample event, no wrap, no frame and
no request (R158); that every other command but those of the reset and the start leaves it as it is too is the
model's reading (notes/assumptions/9.md). The stages of the start sequence follow one another, each begun when the
one before ends, and change nothing but the stage (R158, R159); that an event of the start out of its stage leaves
the state as it is is the model's choice (notes/assumptions/8.md). -/
def Obligations.OnlyStartEventsActBeforeTheEndOfTheStart : Prop :=
  (∀ (c : Instr) (s : State), c.isStartEvent = false → s.running = false → exec c s = .next s)
    ∧ (∀ s : State,
         (s.stc.phase = .asserted →
             exec .resetReleased s = .next (s.setStc { s.stc with phase := .powerUpDelay }))
           ∧ (s.stc.phase = .powerUpDelay →
             exec .powerUpDelayEnd s = .next (s.setStc { s.stc with phase := .oscillatorCount }))
           ∧ (s.stc.phase ≠ .asserted → exec .resetReleased s = .next s)
           ∧ (s.stc.phase ≠ .powerUpDelay → exec .powerUpDelayEnd s = .next s)
           ∧ ∀ straps, s.stc.phase ≠ .oscillatorCount → exec (.oscillatorCountEnd straps) s = .next s)

/-! ### Resets and the start sequence -/

/-- What the assertion of any reset kind does at once: the port presents 0, the output is DARK at level 0 with no
ramp and FTU's streak is 0, the overlays are OFF, the marker outputs low, and the pending profile copy, the barrier,
the open cycle, the queue, the shifter and the frame being received are gone (R33, R115, R146, R150, R158). That the
plan, the profiles and the SETUP values stand until the end of the start sequence, after POWER_ON and SUPPLY_LOW
too, is the model's choice (notes/assumptions/19.md). What the last sample event made due comes first
(notes/assumptions/3.md): a step whose duration has ended is written back COMPLETED, one that an own trip has ended
TRIPPED, and a step still in effect is not written back (R68, R79, R91, R151). The pending cause is replaced by a
reset kind that ranks above it, in the order POWER_ON, SUPPLY_LOW, RESET_PIN, and is left otherwise (R158). -/
def Obligations.ResetAssertionDiscardsWhatIsInFlight : Prop :=
  (∀ (s : State) (c : Instr), c = .powerOn ∨ c = .supplyLow ∨ c = .resetPin →
     let u := if s.running then s.settle else s
     let pass : Pass := { cycles := s.seq.tally.cycles, lrms := s.seq.tally.lrms, limited := s.syn.limitedSamples
                          folded := s.ftu.foldedCycles }
     let written (live : Bool) (reason : EndReason) :=
       s.pls.setSlot s.seq.pointer ((s.pls.slot s.seq.pointer).written live reason pass)
     let passesRemain : Bool := match s.seq.loop with
       | some l => decide (0 < l.remaining)
       | none => false
     ∃ t, exec c s = .next t ∧ t.stc.phase = .asserted
       ∧ t.syn.dac = 0 ∧ t.syn.out = .dark ∧ t.syn.level = 0 ∧ t.syn.ramp = none ∧ t.syn.safe = none
       ∧ t.syn.pendingCopy = none ∧ (∀ i, t.ovl.slot i = .off) ∧ t.seq.out0 = false ∧ t.seq.out1 = false
       ∧ t.ctb.ramp = none ∧ t.jnt.gate = .idle ∧ t.lnk.queue = [] ∧ t.lnk.shifter = none
       ∧ t.lnk.assembling = false ∧ t.fbm.sumSquares = 0 ∧ t.fbm.samples = 0 ∧ t.ftu.streak = 0
       ∧ t.pls = u.pls ∧ t.stc.setup = s.stc.setup ∧ t.pending = s.pending ∧ t.freeCount = u.freeCount
       ∧ (s.running = false ∨ s.due = false → t.pls = s.pls)
       ∧ (∀ r, s.running = true → s.seq.markerLimit = false → s.seq.image = some r →
           let ended := s.seq.state = .active ∧ (r.duration.getD 0).toNat ≤ s.seq.progress
           (ended → s.ftu.tripDue = false → t.pls = written passesRemain .completed)
             ∧ (¬ ended → s.ftu.tripDue = true → (s.seq.state = .active ∨ s.seq.state = .frozen) →
                 t.pls = written false .tripped)))
    ∧ (∀ s : State,
         (∃ t, exec .powerOn s = .next t ∧ t.stc.pendingCause = some .powerOn)
           ∧ (∃ t, exec .supplyLow s = .next t
               ∧ t.stc.pendingCause
                 = some (if s.stc.pendingCause = some .powerOn then .powerOn else .supplyLow))
           ∧ ∃ t, exec .resetPin s = .next t ∧ t.stc.pendingCause = some (s.stc.pendingCause.getD .resetPin))

/-- The end of the start sequence: the straps are held, the start cause is the pending one, the latch is clear, SEQ
is IDLE or, with a station number at or above the count, FAULTED with cause STRAP, and the blocks take their start
values; the values of SEQ's pass tally and of the model's own fields are its choice (notes/assumptions/27.md); the
plan and the SETUP values survive RESET_PIN alone; the one frame offered is a STATUS with cause START to ALL (R35,
R50, R67, R68, R94, R115, R117, R125, R128, R146, R147, R159, R160). The values of the timebase at the end of the
start sequence: tick, divider, counters and C at 0, θ at δ, no ramp, and F from the default 5,000 cHz after POWER_ON
or SUPPLY_LOW and from the retained SETUP frequency after RESET_PIN; δ is the table's value at the sampled phase
offset select (R160); and the first sample event falls on sample tick 1,600 and advances θ from δ by F (R16). -/
def Obligations.StartValuesOfTheBlocks : Prop :=
  (∀ (s : State) (straps : Straps) (cause : StartCause), s.stc.phase = .oscillatorCount →
     straps.wellFormed = true → s.stc.pendingCause = some cause →
     ∃ t, exec (.oscillatorCountEnd straps) s = .next t
       ∧ t.running = true ∧ t.stc.startCause = cause ∧ t.stc.pendingCause = none ∧ t.stc.straps = straps
       ∧ t.stc.energized = false
       ∧ t.stc.setup = (if cause = .resetPin then s.stc.setup else Setup.default)
       ∧ t.pls = (if cause = .resetPin then s.pls else Pls.empty)
       ∧ (if straps.number.toNat < straps.count then t.seq.state = .idle ∧ t.seq.faultCause = .none
           else t.seq.state = .faulted ∧ t.seq.faultCause = .strap)
       ∧ t.seq.pointer = 0 ∧ t.seq.ringStart = 0 ∧ t.seq.image = none ∧ t.seq.loop = none
       ∧ t.seq.suspendLatch = false ∧ t.seq.out0 = false ∧ t.seq.out1 = false ∧ t.seq.in0 = false
       ∧ t.seq.in1 = false ∧ t.seq.progress = 0 ∧ t.seq.tally = { cycles := 0, lrms := none }
       ∧ t.seq.awaitOpen = false ∧ t.seq.retest = false ∧ t.seq.markerLimit = false
       ∧ t.syn = { out := .dark, level := 0, ramp := none, safe := none, profile := none, pendingCopy := none
                   limited := false, limitedSamples := 0, dac := 0 }
       ∧ (∀ i, t.ovl.slot i = .off)
       ∧ t.jnt = { gate := .idle, tag := 0, mask := 0, timeout := 0, entry := 0, ownJoin := false
                   withdrawRef := none, angleTest := false }
       ∧ (∀ n, t.ptb.peer n = if n = straps.number then PeerRecord.own else PeerRecord.absent)
       ∧ t.lck = { state := .alone, streak := 0, clampHit := false, waiting := none }
       ∧ t.fbm = { sumSquares := 0, samples := 0, peakV := 0, peakI := 0, lastLrms := 0 }
       ∧ t.ftu = { phi := 1024, limit := t.stc.setup.limit, tripCycles := 0, stepPolicy := none, streak := 0
                   foldedCycles := 0, tripCause := none, folded := false, tripDue := false }
       ∧ t.lnk.lineIdle = false ∧ t.lnk.recessive = 0 ∧ t.lnk.assembling = false ∧ t.lnk.shifter = none
       ∧ t.lnk.checkErrors = 0 ∧ t.lnk.collisions = 0 ∧ t.lnk.rxCheck = false ∧ t.lnk.txDrop = false
       ∧ t.lnk.markReplaced = false ∧ t.lnk.markStale = false
       ∧ ∃ y : Summary, t.lnk.queue = [{ order := 0, item := .frame 15 (.status y) }]
           ∧ y.cause = .start ∧ y.startCause = cause ∧ y.seq = t.seq.state ∧ y.faultCause = t.seq.faultCause
           ∧ t.reports .start y)
    ∧ (∀ (s : State) (straps : Straps) (x : SampleInputs), s.stc.phase = .oscillatorCount → straps.wellFormed = true →
         let offsets : List Phase :=
           [0, 1431655765, 2863311531, 2147483648, 1073741824, 3221225472, 715827883, 3579139413]
         ∃ t u, exec (.oscillatorCountEnd straps) s = .next t
           ∧ offsets[straps.offsetSelect.toNat]? = some t.ctb.delta
           ∧ t.ctb = { tick := 0, divider := 0, theta := t.ctb.delta, delta := t.ctb.delta
                       f := if s.stc.pendingCause = some .resetPin then incrementOf s.stc.setup.frequency else 8388608
                       ramp := none, c := 0, ownCycles := 0, commonCycles := 0 }
           ∧ t.ctb.thetaC = 0
           ∧ exec (.sampleEvent x) t = .next u ∧ u.ctb.tick = 1600
           ∧ u.ctb.theta = t.ctb.delta + BitVec.ofNat 32 t.ctb.f)

/-- The state after reset has every value that the manual's tables give for the end of the start sequence after
POWER_ON; its straps are the model's choice (notes/assumptions/1.md). The state after reset meets every one of these
conditions. -/
def Obligations.ResetIsTheStartStateAndMeetsTheConditions : Prop :=
  (∀ s : State, s.stc.phase = .oscillatorCount → s.stc.pendingCause = some .powerOn → s.freeCount = 0 →
     s.pending = [] → exec (.oscillatorCountEnd Straps.atReset) s = .next State.reset)
    ∧ (State.reset.ready ∧ State.reset.lnk.ordered ∧ State.reset.outputFits ∧ State.reset.foldFits
         ∧ State.reset.lockFits ∧ State.reset.lnk.countersFit ∧ State.reset.ownRecordStands
         ∧ State.reset.strangersStand ∧ State.reset.consistent ∧ State.reset.quietInReset)

/-! ### The sample event: timebase, wraps, marks -/

/-- A sample event returns the divider to 0 on the 1,600th tick and advances θ by F + C modulo 2^32; the two cycle
counters count the passages of θ and of θc through zero; no capture moves θ while the output is not DARK, nor on a
sample that is no common wrap (R3, R4, R5, R6, R126). On a sample that is no common wrap C is kept, clamped to the F
the sample ends with (R10). On an own wrap the pending profile copy is written into its profile and is gone; on
every other sample it is held, and every other profile stands (R28). The step ring and STC are untouched, and no
order is drawn where none is open: unless an own trip falls together with a start, the opening of a gate or the end
of a step, or a loss with SEQ's work of the sample. -/
def Obligations.SampleAdvancesTheTimebase : Prop :=
  ∀ (s : State) (x : SampleInputs), s.ready → s.ctb.divider ≤ 1599 →
    ∃ t, exec (.sampleEvent x) s = .next t
      ∧ t.ctb.divider = 0 ∧ t.ctb.tick = s.ctb.tick + BitVec.ofNat 32 (1600 - s.ctb.divider)
      ∧ t.ctb.delta = s.ctb.delta
      ∧ (s.syn.out ≠ .dark ∨ s.ctb.nextAdvance.commonWrap = false →
          t.ctb.theta = s.ctb.theta + BitVec.ofNat 32 (s.ctb.f + s.ctb.c).toNat)
      ∧ (s.ctb.nextAdvance.commonWrap = false → s.ctb.c.natAbs ≤ s.ctb.f >>> 10 →
          let bound : Int := (t.ctb.f >>> 10 : Nat)
          t.ctb.c = if s.ctb.c > bound then bound else if s.ctb.c < -bound then -bound else s.ctb.c)
      ∧ t.ctb.ownCycles
          = (if (s.ctb.theta + BitVec.ofNat 32 (s.ctb.f + s.ctb.c).toNat).toNat < s.ctb.theta.toNat
              then s.ctb.ownCycles + 1 else s.ctb.ownCycles)
      ∧ t.ctb.commonCycles
          = (if (s.ctb.theta + BitVec.ofNat 32 (s.ctb.f + s.ctb.c).toNat - s.ctb.delta).toNat
                < (s.ctb.theta - s.ctb.delta).toNat
              then s.ctb.commonCycles + 1 else s.ctb.commonCycles)
      ∧ (s.ctb.nextAdvance.ownWrap = true → t.syn.pendingCopy = none
          ∧ (∀ i l, s.syn.pendingCopy = some (i, l) →
              t.pls.profile i = l ∧ ∀ j, j ≠ i → t.pls.profile j = s.pls.profile j)
          ∧ (s.syn.pendingCopy = none → t.pls.profiles = s.pls.profiles))
      ∧ (s.ctb.nextAdvance.ownWrap = false →
          t.syn.pendingCopy = s.syn.pendingCopy ∧ t.pls.profiles = s.pls.profiles)
      ∧ t.pls.ring = s.pls.ring ∧ t.stc = s.stc ∧ (s.undisputed → t.freeCount = s.freeCount)
      ∧ t.pending = s.pending

/-- The increment of every frequency the station stores lies in 6,710,886..11,744,051, and with the correction it
holds the effective increment lies in 6,704,333..11,755,519 (R7, R11). -/
def Obligations.EffectiveIncrementBounds : Prop :=
  (∀ f, frequencyFits f → incrementFits (incrementOf f))
    ∧ ∀ c : Ctb, incrementFits c.f → c.c.natAbs ≤ c.f >>> 10 →
        6704333 ≤ c.fEff ∧ c.fEff ≤ 11755519 ∧ (c.fEff : Int) = c.f + c.c

/-- The mark instant of a common wrap lies at most 1,599 ticks before the wrap's sample tick, and a common wrap
leaves exactly one MARK in a queue that has room for it and for what SEQ and JNT may offer on the sample, with that
instant (R12, R107). On a common wrap PTB ages each PRESENT or LOST record but the station's own by 1, saturating at
255, and from age 3 on it is not fresh; an ABSENT record is not aged; the station's own is left alone (R122 steps 1
and 2). A record that reaches age 8 on a sample with SEQ's own work may be LOST on it already
(notes/assumptions/2.md). On a sample that is no common wrap no record changes. -/
def Obligations.CommonWrapMarksAndAges : Prop :=
  (∀ (s : State) (x : SampleInputs), s.ready → s.ctb.divider ≤ 1599 → s.ctb.nextAdvance.commonWrap = true →
     incrementFits s.ctb.f → s.ctb.c.natAbs ≤ s.ctb.f >>> 10 → s.lnk.ordered →
     (s.lnk.queue.length ≤ 5 ∨ (s.lnk.queue.length < 8 ∧ s.startsNothing)) →
     ∃ t back, exec (.sampleEvent x) s = .next t ∧ back ≤ 1599
       ∧ back = (s.ctb.nextAdvance.theta - s.ctb.delta).toNat * 1600 / s.ctb.fEff
       ∧ (t.lnk.queue.filter TxEntry.isMark).map (·.item)
           = [.mark (t.ctb.tick - BitVec.ofNat 32 back)])
    ∧ (∀ (s : State) (x : SampleInputs) (n : Station), s.ready → s.noCapture →
         ∃ t, exec (.sampleEvent x) s = .next t
           ∧ (s.ctb.nextAdvance.commonWrap = false → t.ptb = s.ptb ∧ t.lck = s.lck)
           ∧ (s.ctb.nextAdvance.commonWrap = true →
               (n = s.own ∨ (s.ptb.peer n).state = .absent → t.ptb.peer n = s.ptb.peer n)
               ∧ (n ≠ s.own → (s.ptb.peer n).state ≠ .absent →
                   let aged : PeerRecord :=
                     { s.ptb.peer n with
                       age := min 255 ((s.ptb.peer n).age + 1)
                       fresh := (s.ptb.peer n).fresh && min 255 ((s.ptb.peer n).age + 1) < 3 }
                   t.ptb.peer n = aged
                     ∨ (s.mayWork = true ∧ n.toNat < s.count ∧ aged.state = .present ∧ 8 ≤ aged.age
                         ∧ t.ptb.peer n = { aged with state := .lost }))))

/-! ### Lock -/

/-- An evaluation with no fresh expected peer: ALONE, streak 0, C = 0, and nothing else changes (R123). An
evaluation with fresh peers and no capture: with n errors of sum Σ, C is −trunc(Σ × F / ((n + 1) × 2^g)) clamped to
±(F >> 10), CLAMP_HIT is set just when the clamp changes it, the streak counts evaluations in which every error is
within 2^22 and holds at 4, ALONE and SEEKING become LOCKED at streak 4, and LOCKED becomes SEEKING when an error
exceeds 2^24 (R124, R125). A sample event that is a common wrap makes this evaluation once, after the advance and
the ageing and with the base increment of the advance: the lock, θ and the records are as it leaves them, and C as
it leaves it, clamped against the F the sample ends with (R10, R122, R123). When the wrap makes losses, the
evaluation comes after the last of them: it has come with them in the sample event, or waits for PEER_LOST with that
base increment, the lock being as it was (R122, R123; which of the two: notes/assumptions/2.md). -/
def Obligations.LockEvaluation : Prop :=
  (∀ (s : State) (fBase : Nat), s.freshErrors = [] →
     s.evaluateLock fBase
       = (s.setLck { s.lck with state := .alone, streak := 0 }).setCtb { s.ctb with c := 0 })
    ∧ (∀ (s : State) (errors : List Int), s.freshErrors.map (·.2) = errors → errors ≠ [] → s.noCapture →
         let n := errors.length
         let raw := -Int.tdiv (errors.sum * s.ctb.f) (((n + 1) * 2 ^ (33 + s.stc.straps.gainSelect.toNat) : Nat))
         let bound : Int := (s.ctb.f >>> 10 : Nat)
         let t := s.evaluateLock s.ctb.f
         t.ctb = { s.ctb with c := if raw > bound then bound else if raw < -bound then -bound else raw }
           ∧ (t.lck.clampHit = true ↔ s.lck.clampHit = true ∨ raw > bound ∨ raw < -bound)
           ∧ ((∀ e ∈ errors, e.natAbs ≤ 2 ^ 22) → t.lck.streak = min 4 (s.lck.streak + 1))
           ∧ ((∃ e ∈ errors, e.natAbs > 2 ^ 22) → t.lck.streak = 0)
           ∧ (s.lck.state ≠ .locked → t.lck.state = if t.lck.streak = 4 then .locked else .seeking)
           ∧ (s.lck.state = .locked →
               t.lck.state = if (∃ e ∈ errors, e.natAbs > 2 ^ 24) then .seeking else .locked)
           ∧ s.onlyChanges t [.ctb, .lck])
    ∧ (∀ (s : State) (x : SampleInputs), s.ready → s.ctb.nextAdvance.commonWrap = true →
         let v := ((s.setCtb s.ctb.advance).setPtb (s.ptb.aged s.own)).evaluateLock s.ctb.f
         ∃ t, exec (.sampleEvent x) s = .next t
           ∧ (t.lck = v.lck ∨ (s.lossAhead ∧ t.anyLossDue = true
               ∧ t.lck = { s.lck with waiting := some s.ctb.f } ∧ t.ctb.theta = s.ctb.nextAdvance.theta))
           ∧ (t.lck = v.lck → t.ctb.theta = v.ctb.theta
               ∧ let bound : Int := (t.ctb.f >>> 10 : Nat)
                 t.ctb.c = if v.ctb.c > bound then bound else if v.ctb.c < -bound then -bound else v.ctb.c)
           ∧ (¬ s.lossAhead → t.lck = v.lck ∧ t.ptb = v.ptb))

/-- A capture: with the output DARK, SEQ at rest, and the lowest-numbered fresh expected peer below the station's
own number more than 2^26 away, θ is moved back by that error, C and the streak become 0, the lock is SEEKING,
CLAMP_HIT is left, no record but the station's own is fresh, and the start latch is marked as taken before a
capture, nothing else of LNK being changed (R14, R119, R126). No capture is made unless the output is DARK and SEQ
is at rest (R126): θ keeps its value in the evaluation. -/
def Obligations.CaptureMovesThetaByTheError : Prop :=
  (∀ (s : State) (n : Station) (e : Int), s.syn.out = .dark →
     (s.seq.state = .idle ∨ s.seq.state = .suspended ∨ s.seq.state = .tripped ∨ s.seq.state = .faulted) →
     s.expectedPeer n = true → (s.ptb.peer n).fresh = true → (s.ptb.peer n).error = e → n.toNat < s.own.toNat →
     (∀ m : Station, m.toNat < n.toNat → (s.ptb.peer m).fresh = false) → e.natAbs > 2 ^ 26 → e.natAbs ≤ 2 ^ 31 →
     ∃ t, s.evaluateLock s.ctb.f = t
       ∧ t.ctb = { s.ctb with theta := s.ctb.theta - BitVec.ofInt 32 e, c := 0 }
       ∧ t.lck = { s.lck with state := .seeking, streak := 0 }
       ∧ t.lnk = { s.lnk with latch := { s.lnk.latch with captured := true } }
       ∧ (∀ m, m ≠ s.own → (t.ptb.peer m).fresh = false) ∧ t.ptb.peer s.own = s.ptb.peer s.own
       ∧ s.onlyChanges t [.ctb, .lck, .ptb, .lnk])
    ∧ (∀ (s : State) (fBase : Nat), (s.evaluateLock fBase).ctb.theta ≠ s.ctb.theta →
         s.syn.out = .dark ∧ s.own ≠ 0
           ∧ (s.seq.state = .idle ∨ s.seq.state = .suspended ∨ s.seq.state = .tripped ∨ s.seq.state = .faulted))

/-! ### The output code -/

/-- The table's values lie in −32,767..32,767, and obey the rule's symmetries: S at 4,096 − i is −S at i, and S at
2,048 − i is S at i, for i in 1..2,047 (R19). The fundamental term is floor((S(θ) × A + 16,384) / 32,768), and lies
in −49,149..49,149 for every amplitude the station forms; both ends are reached (R24, R25). -/
def Obligations.SineTableAndFundamentalTerm : Prop :=
  ((∀ x : Phase, -32767 ≤ sine x ∧ sine x ≤ 32767)
     ∧ (∀ i, 1 ≤ i → i ≤ 2047 → sineAt (4096 - i) = -sineAt i ∧ sineAt (2048 - i) = sineAt i)
     ∧ sineAt 0 = 0 ∧ sineAt 1 = 50 ∧ sineAt 128 = 6393 ∧ sineAt 256 = 12540 ∧ sineAt 512 = 23170
     ∧ sineAt 1024 = 32767 ∧ sineAt 1536 = 23170 ∧ sineAt 2048 = 0 ∧ sineAt 2560 = -23170
     ∧ sineAt 3072 = -32767)
    ∧ ((∀ pNom level phi, pNom ≤ 32767 → level ≤ 15000 → phi ≤ 1024 →
           amplitude pNom level phi = pNom * level * phi / 10240000 ∧ amplitude pNom level phi ≤ 49150)
         ∧ (∀ (theta : Phase) (a : Nat), a ≤ 49150 →
             fundamental theta a = (sine theta * a + 16384) / 32768
               ∧ -49149 ≤ fundamental theta a ∧ fundamental theta a ≤ 49149)
         ∧ fundamental (1024 * 2 ^ 20) 49150 = 49149 ∧ fundamental (3072 * 2 ^ 20) 49150 = -49149)

/-- The code of a sample: 0 while the output is DARK; otherwise Σ′ clamped to ±clip, where Σ′ is formed from the
advanced θ, this sample's level, profile and overlay slots, and the Φ left by the sample before; LIMITED and the
limited-sample count of a step in effect record a Σ′ beyond the clip, the count from 0 at a start sample, the start
sample included (R18, R24, R30, R31, R32). -/
def Obligations.SampleCodeFollowsTheStages : Prop :=
  ∀ (s : State) (x : SampleInputs), s.ready →
    ∃ t, exec (.sampleEvent x) s = .next t ∧
      let entries := match t.syn.profile with
        | some i => t.pls.profile i
        | none => []
      let theta := s.ctb.nextAdvance.theta
      let pNom := s.stc.setup.pNom
      let clip : Int := s.stc.setup.clip
      let sum := sigma theta (pNom * t.syn.level * s.ftu.phi / 10240000) entries t.ovl pNom s.ftu.phi
      let value := sigmaReplaced theta sum t.ovl pNom
      let beyond := t.syn.out ≠ .dark ∧ (value > clip ∨ value < -clip)
      t.syn.out = s.syn.out
        ∧ (t.syn.out = .dark → t.syn.dac = 0 ∧ t.syn.limited = s.syn.limited)
        ∧ (t.syn.out ≠ .dark →
            t.syn.dac = (if value > clip then clip else if value < -clip then -clip else value)
            ∧ (t.syn.limited = true ↔ s.syn.limited = true ∨ value > clip ∨ value < -clip))
        ∧ (s.noStart → t.syn.limitedSamples
            = if beyond ∧ t.inEffect = true then min 65535 (s.syn.limitedSamples + 1) else s.syn.limitedSamples)
        ∧ (s.undisputed → ∀ r, s.startsOn r → t.syn.limitedSamples = if beyond then 1 else 0)

/-- A harmonic's term is the Q15 product of S at (n × θ + φ × 65,536) modulo 2^32 and floor((A × h + 500) / 1,000),
within −19,659..19,659 (R27). The sum is the fundamental, a term for every entry of the profile and a term for every
one of the eight slots, whatever the order of the entries (R27, R29). The acting replacing slot is the
lowest-numbered whose window contains the angle: if a slot acts at an angle and no lower-numbered slot does, its
kind alone forms Σ′ (R42, R43, R45–R48). Without a replacing slot whose window contains the angle, Σ′ = Σ (R45); and
a window contains an angle as R44 says. -/
def Obligations.LowestReplacingSlotActs : Prop :=
  (∀ (theta : Phase) (a : Nat) (e : ProfileEntry),
     (harmonic theta a e
         = (sine (BitVec.ofNat 32 (e.order.toNat * theta.toNat + e.phase.toNat * 65536))
             * (((a * e.amplitude.toNat + 500) / 1000 : Nat) : Int) + 16384) / 32768)
       ∧ (a ≤ 49150 → e.amplitude.toNat ≤ 400 → -19659 ≤ harmonic theta a e ∧ harmonic theta a e ≤ 19659))
    ∧ (∀ (theta : Phase) (a : Nat) (o : Ovl) (pNom phi : Nat),
         (sigma theta a [] o pNom phi
             = fundamental theta a
               + ((o.slot 0).additive pNom phi + (o.slot 1).additive pNom phi + (o.slot 2).additive pNom phi
                 + (o.slot 3).additive pNom phi + (o.slot 4).additive pNom phi + (o.slot 5).additive pNom phi
                 + (o.slot 6).additive pNom phi + (o.slot 7).additive pNom phi))
           ∧ (∀ e l, sigma theta a (e :: l) o pNom phi = harmonic theta a e + sigma theta a l o pNom phi)
           ∧ ∀ l l' : List ProfileEntry, l.Perm l' → sigma theta a l o pNom phi = sigma theta a l' o pNom phi)
    ∧ (∀ (o : Ovl) (i : OverlayIndex) (theta : Phase) (sum : Int) (pNom : Nat),
         (o.slot i).actsAt (theta.extractLsb' 16 16) = true →
         (∀ j : OverlayIndex, j.toNat < i.toNat → (o.slot j).actsAt (theta.extractLsb' 16 16) = false) →
         (∀ d w0 w1, o.slot i = .notch d w0 w1 →
             sigmaReplaced theta sum o pNom = Int.tdiv (sum * d.toNat) 10000)
           ∧ (∀ b w0 w1, o.slot i = .flattop b w0 w1 →
             sigmaReplaced theta sum o pNom
               = (let m : Int := (pNom * b.toNat / 10000 : Nat)
                  if sum > m then m else if sum < -m then -m else sum))
           ∧ (∀ c w0 w1, o.slot i = .force c w0 w1 → sigmaReplaced theta sum o pNom = c.toInt))
    ∧ ((∀ (o : Ovl) (theta : Phase) (sum : Int) (pNom : Nat),
           (∀ j, (o.slot j).actsAt (theta.extractLsb' 16 16) = false) → sigmaReplaced theta sum o pNom = sum)
         ∧ ∀ (x : OverlaySlot) (a : Angle), x.actsAt a = true ↔
             ∃ w0 w1, x.window = some (w0, w1)
               ∧ (w0 = w1 ∨ (w0.toNat < w1.toNat ∧ w0.toNat ≤ a.toNat ∧ a.toNat < w1.toNat)
                   ∨ (w1.toNat < w0.toNat ∧ (w0.toNat ≤ a.toNat ∨ a.toNat < w1.toNat))))

/-- A tone's term is the Q15 product of S at its slot phase and floor(P_nom × b × Φ / 10,240,000), within
−16,383..16,383; an OFFSET's is its code; the other kinds add nothing (R42, R43). -/
def Obligations.AdditiveTerms : Prop :=
  (∀ (f : BitVec 32) (inc : Phase) (b : Word16) (p : Phase) (pNom phi : Nat),
      pNom ≤ 32767 → b.toNat ≤ 5000 → phi ≤ 1024 →
      (OverlaySlot.tone f inc b p).additive pNom phi
          = (sine p * ((pNom * b.toNat * phi / 10240000 : Nat) : Int) + 16384) / 32768
        ∧ -16383 ≤ (OverlaySlot.tone f inc b p).additive pNom phi
        ∧ (OverlaySlot.tone f inc b p).additive pNom phi ≤ 16383)
    ∧ (∀ c pNom phi, (OverlaySlot.offset c).additive pNom phi = c.toInt)
    ∧ (∀ (x : OverlaySlot) pNom phi, x.window.isSome = true ∨ x = .off → x.additive pNom phi = 0)

/-- An overlay entry acts on the slot it names and on no other: DISARM makes it OFF; ARM TONE derives the increment
round(f × 2^32 / 2,560,000), and keeps the slot phase of a slot already TONE and starts at 0 otherwise; every other
ARM stores its parameters (R37, R38, R39, R40). On every sample event each armed TONE slot's phase advances by its
own increment, and on a sample that starts no step nothing else of the slots changes (R41). -/
def Obligations.OverlayEntriesAndToneAdvance : Prop :=
  (∀ (o : Ovl) (i j : OverlayIndex),
     (∀ arm, j ≠ i → (o.apply { slot := i, arm := arm }).slot j = o.slot j)
       ∧ (o.apply { slot := i, arm := none }).slot i = .off
       ∧ (∀ f b f0 inc0 b0 p, o.slot i = .tone f0 inc0 b0 p →
           (o.apply { slot := i, arm := some (.tone f b) }).slot i
             = .tone f (BitVec.ofNat 32 ((2 * (f.toNat * 2 ^ 32) + 2560000) / 5120000)) b p)
       ∧ (∀ f b, (o.slot i).kind ≠ .tone →
           (o.apply { slot := i, arm := some (.tone f b) }).slot i
             = .tone f (BitVec.ofNat 32 ((2 * (f.toNat * 2 ^ 32) + 2560000) / 5120000)) b 0)
       ∧ (∀ c, (o.apply { slot := i, arm := some (.offset c) }).slot i = .offset c)
       ∧ (∀ d w0 w1, (o.apply { slot := i, arm := some (.notch d w0 w1) }).slot i = .notch d w0 w1)
       ∧ (∀ b w0 w1, (o.apply { slot := i, arm := some (.flattop b w0 w1) }).slot i = .flattop b w0 w1)
       ∧ ∀ c w0 w1, (o.apply { slot := i, arm := some (.force c w0 w1) }).slot i = .force c w0 w1)
    ∧ (∀ (s : State) (x : SampleInputs) (i : OverlayIndex), s.ready → s.noStart →
         ∃ t, exec (.sampleEvent x) s = .next t
           ∧ (∀ f inc b p, s.ovl.slot i = .tone f inc b p → t.ovl.slot i = .tone f inc b (p + inc))
           ∧ ((∀ f inc b p, s.ovl.slot i ≠ .tone f inc b p) → t.ovl.slot i = s.ovl.slot i))

/-! ### Ramps -/

/-- The level of a sample that is no start sample: the safe ramp-down's value; else the level ramp's next value, or
in FROZEN the level before; else the level before (R20, R22, R23). The base increment of such a sample follows its
ramp in the same way, and takes no progress in FROZEN (R9). -/
def Obligations.SampleLevelAndFrequencyFollowTheirRamps : Prop :=
  (∀ (s : State) (x : SampleInputs), s.ready → s.noStart →
     ∃ t, exec (.sampleEvent x) s = .next t
       ∧ (∀ g, s.syn.safe = some g → g.index < g.length → g.start ≤ 15000 →
           (t.syn.level : Int) = g.start + Int.tdiv ((0 - (g.start : Int)) * (g.index + 1)) g.length
             ∧ t.syn.safe = some { g with index := g.index + 1 } ∧ t.syn.ramp = s.syn.ramp)
       ∧ (∀ r, s.syn.safe = none → s.syn.ramp = some r → r.index < r.length → t.seq.state ≠ .frozen →
           (t.syn.level : Int)
               = r.start + Int.tdiv (((r.target : Int) - r.start) * (r.index + 1)) r.length
             ∧ t.syn.ramp = some { r with index := r.index + 1 })
       ∧ (s.syn.safe = none → (s.syn.ramp = none ∨ t.seq.state = .frozen) →
           t.syn.level = s.syn.level ∧ t.syn.ramp = s.syn.ramp))
    ∧ (∀ (s : State) (x : SampleInputs), s.ready → s.noStart →
         ∃ t, exec (.sampleEvent x) s = .next t
           ∧ (∀ r, s.ctb.ramp = some r → r.index < r.length → t.seq.state ≠ .frozen →
               (t.ctb.f : Int) = r.start + Int.tdiv (((r.target : Int) - r.start) * (r.index + 1)) r.length
                 ∧ t.ctb.ramp = some { r with index := r.index + 1 })
           ∧ ((s.ctb.ramp = none ∨ t.seq.state = .frozen) → t.ctb.f = s.ctb.f ∧ t.ctb.ramp = s.ctb.ramp))

/-- A ramp whose index has reached its length stands at its target, and LEVEL_RAMP_END and FREQUENCY_RAMP_END end it
there and change nothing else (R9, R22); that without such a ramp they change nothing is the model's choice
(notes/assumptions/8.md). Every value of a ramp lies between its start and its target (R20, R22).
SAFE_RAMP_DOWN_END: the output becomes DARK with L = 0 and no ramp, FTU's streak becomes 0, and nothing else
changes: Φ, the trip cause, the limit and the latch stand (R33, R150, R152). -/
def Obligations.RampValuesAndTheirEnds : Prop :=
  ((∀ start target r, 1 ≤ r → rampValue start target r r = target)
     ∧ ∀ s : State, s.running = true →
         (s.syn.rampDone = true → exec .levelRampEnd s = .next (s.setSyn { s.syn with ramp := none }))
         ∧ (s.syn.rampDone = false → exec .levelRampEnd s = .next s)
         ∧ (s.ctb.rampDone = true → exec .frequencyRampEnd s = .next (s.setCtb { s.ctb with ramp := none }))
         ∧ (s.ctb.rampDone = false → exec .frequencyRampEnd s = .next s))
    ∧ (∀ start target k r : Nat, 1 ≤ r → k ≤ r →
         min start target ≤ rampValue start target k r ∧ rampValue start target k r ≤ max start target)
    ∧ (∀ (s : State) (g : SafeRamp), s.running = true → s.syn.out = .falling → s.syn.safe = some g →
         g.length ≤ g.index →
         exec .safeRampDownEnd s
           = .next ((s.setSyn { s.syn with out := .dark, level := 0, ramp := none, safe := none }).setFtu
               { s.ftu with streak := 0 }))

/-! ### Starting and timing a step -/

/-- A start sample hands the step's changes to their owners: level and ramp, frequency, profile, overlays, marker
outputs, current limit, trip policy and trip cycles; SEQ enters ACTIVE with its counts begun, JNT is IDLE, and
STATUS with cause STARTED and state ACTIVE is the last frame offered, where no own trip or loss falls on the sample
with it (R8, R21, R26, R32, R38, R77, R78, R93, R132, R145, R148). A step without `level` leaves the level to its
ramp, and one without `frequency` the base increment to its own (R9, R21, R22). The records are to be tested again
on the next sample just when the step's policy is HOLD and a record other than the station's own shows a trip or a
loss (R89). -/
def Obligations.StartSampleHandsTheStepOver : Prop :=
  ∀ (s : State) (x : SampleInputs) (r : StepRecord), s.ready → s.undisputed → s.startsOn r →
    ∃ t, exec (.sampleEvent x) s = .next t
      ∧ t.seq.state = .active ∧ t.seq.image = some r ∧ t.seq.pointer = s.seq.pointer ∧ t.jnt.gate = .idle
      ∧ t.seq.progress = (if r.unit = .samples then 1 else 0) ∧ t.seq.tally = { cycles := 0, lrms := none }
      ∧ (∀ l, r.level = some l → r.ramp = 0 → t.syn.level = l.toNat ∧ t.syn.ramp = none)
      ∧ (∀ l, r.level = some l → r.ramp ≠ 0 →
          t.syn.level = rampValue s.syn.level l.toNat 1 r.ramp.toNat
            ∧ t.syn.ramp = some { start := s.syn.level, target := l.toNat, length := r.ramp.toNat, index := 1 })
      ∧ (r.level = none → s.syn.safe = none →
          (s.syn.ramp = none → t.syn.level = s.syn.level ∧ t.syn.ramp = none)
          ∧ ∀ p, s.syn.ramp = some p → p.index < p.length →
              t.syn.level = rampValue p.start p.target (p.index + 1) p.length
                ∧ t.syn.ramp = some { p with index := p.index + 1 })
      ∧ (r.frequency = none →
          (s.ctb.ramp = none → t.ctb.f = s.ctb.f ∧ t.ctb.ramp = none)
          ∧ ∀ p, s.ctb.ramp = some p → p.index < p.length →
              t.ctb.f = rampValue p.start p.target (p.index + 1) p.length
                ∧ t.ctb.ramp = some { p with index := p.index + 1 })
      ∧ (t.seq.retest = true ↔ r.tripPolicy.getD s.stc.setup.policy = .hold
          ∧ ∃ n, n ≠ s.own ∧ ((s.ptb.peer n).tripped = true ∨ (s.ptb.peer n).state = .lost))
      ∧ (∀ f, r.frequency = some f → r.ramp = 0 → t.ctb.f = incrementOf f.toNat ∧ t.ctb.ramp = none)
      ∧ (∀ f, r.frequency = some f → r.ramp ≠ 0 →
          t.ctb.f = rampValue s.ctb.f (incrementOf f.toNat) 1 r.ramp.toNat
            ∧ t.ctb.ramp = some { start := s.ctb.f, target := incrementOf f.toNat, length := r.ramp.toNat
                                  index := 1 })
      ∧ t.syn.profile = (match r.profile with
          | some p => p
          | none => s.syn.profile)
      ∧ t.ovl = s.ovl.advance.applyAll r.overlays
      ∧ (∀ m, r.markers = some m →
          t.seq.out0 = (match m.out0 with
            | .keep => s.seq.out0
            | .low => false
            | .high => true)
          ∧ t.seq.out1 = (match m.out1 with
            | .keep => s.seq.out1
            | .low => false
            | .high => true))
      ∧ (r.markers = none → t.seq.out0 = s.seq.out0 ∧ t.seq.out1 = s.seq.out1)
      ∧ t.ftu.limit = (match r.currentLimit with
          | some l => l.toNat
          | none => s.stc.setup.limit)
      ∧ t.ftu.stepPolicy = some (r.tripPolicy.getD s.stc.setup.policy)
      ∧ t.ftu.tripCycles = (match r.tripCycles with
          | some n => n.toNat
          | none => s.ftu.tripCycles)
      ∧ t.ftu.foldedCycles = 0
      ∧ s.lnk.offersNamed { t.lnk with latch := s.lnk.latch }
          ((if s.ctb.nextAdvance.commonWrap then [.mark s.ctb.nextAdvance.markInstant] else [])
            ++ [.status .started .active])

/-- The start-angle test is passed on the one sample on whose advance θ reached or passed the angle: the angle lies
in the arc that the advance has covered; and while the increment stands, no other advance of the same turn passes it
again (R76). -/
def Obligations.StartAngleIsReachedOnce : Prop :=
  (∀ (c : Ctb) (angle : Angle), c.fEff < 2 ^ 31 →
     (angleMet (some angle) c.nextAdvance = true ↔
       ∃ d, d < c.fEff ∧ c.nextAdvance.theta = BitVec.ofNat 32 (angle.toNat * 65536) + BitVec.ofNat 32 d))
    ∧ (∀ (c : Ctb) (angle : Angle) (later : Nat), 1 ≤ later → (later + 1) * c.fEff ≤ 2 ^ 32 →
         angleMet (some angle) c.nextAdvance = true →
         angleMet (some angle) (Ctb.advance^[later] c).nextAdvance = false)

/-- An ARMED step whose await gate is shut opens it on the first own wrap that samples the awaited level: a step
that is not joint stays ARMED with its gate open and no frame of SEQ's; a joint step enters GATHERING with STATUS
TAKEN and then its JOIN, or its WITHDRAW when a masked peer's record shows a trip or a loss, which leaves the gate
WITHDRAWING. On any other sample it stays ARMED with its gate shut and no frame of SEQ's (R74, R75, R129). No own
trip or loss falls on the sample with it (those are another statement's). An ARMED step whose gate is open, or a
GATHERING one, keeps all of SEQ on a sample that is no start sample, and so does SEQ in IDLE, HELD, SUSPENDED,
TRIPPED and FAULTED; a common wrap begins the start-angle test of a COMPLETE gate; and no frame but the MARK is
offered (R69, R76, R132). The marker inputs are latched on every own wrap, in every state (R74). -/
def Obligations.AwaitGateOpensOnAnOwnWrap : Prop :=
  (∀ (s : State) (x : SampleInputs) (r : StepRecord), s.ready → s.undisputed → s.seq.state = .armed →
    s.seq.image = some r → s.seq.awaitOpen = false → s.jnt.gate = .idle →
    let opens := s.ctb.nextAdvance.ownWrap = true ∧ awaitMet x.in0 x.in1 r.awaited = true
    let mark := if s.ctb.nextAdvance.commonWrap then [FrameName.mark s.ctb.nextAdvance.markInstant] else []
    ∃ t, exec (.sampleEvent x) s = .next t ∧ t.seq.image = some r ∧ t.seq.pointer = s.seq.pointer
      ∧ (s.ctb.nextAdvance.ownWrap = true → t.seq.in0 = x.in0 ∧ t.seq.in1 = x.in1)
      ∧ (s.ctb.nextAdvance.ownWrap = false → t.seq.in0 = s.seq.in0 ∧ t.seq.in1 = s.seq.in1)
      ∧ (¬ opens → t.seq.state = .armed ∧ t.seq.awaitOpen = false ∧ t.jnt = s.jnt ∧ s.lnk.offersNamed t.lnk mark)
      ∧ (opens → r.joint = none →
          t.seq.state = .armed ∧ t.seq.awaitOpen = true ∧ t.jnt = s.jnt ∧ s.lnk.offersNamed t.lnk mark)
      ∧ (opens → ∀ j, r.joint = some j →
          t.seq.state = .gathering
            ∧ ∃ name, s.opensGate t j name
                ∧ s.lnk.offersNamed t.lnk (mark ++ [.status .taken .gathering, name])))
    ∧ (∀ (s : State) (x : SampleInputs), s.ready → s.noStart → s.undisputed → s.seq.retest = false →
        s.seq.state ≠ .active → s.seq.state ≠ .frozen → (s.seq.state = .armed → s.seq.awaitOpen = true) →
        let a := s.ctb.nextAdvance
        ∃ t, exec (.sampleEvent x) s = .next t
          ∧ t.seq = { s.seq with in0 := if a.ownWrap then x.in0 else s.seq.in0
                                 in1 := if a.ownWrap then x.in1 else s.seq.in1 }
          ∧ t.jnt = (if a.commonWrap ∧ s.jnt.gate = .complete then { s.jnt with angleTest := true } else s.jnt)
          ∧ s.lnk.offersNamed { t.lnk with latch := s.lnk.latch } (if a.commonWrap then [.mark a.markInstant] else []))
    ∧ (∀ (s : State) (x : SampleInputs), s.ready →
        ∃ t, exec (.sampleEvent x) s = .next t
          ∧ t.seq.in0 = (if s.ctb.nextAdvance.ownWrap then x.in0 else s.seq.in0)
          ∧ t.seq.in1 = (if s.ctb.nextAdvance.ownWrap then x.in1 else s.seq.in1))

/-- The duration of a step in ACTIVE counts sample events or own wraps, one for each, on a sample where no order is
open: no loss falls on it, and an own trip only where the step does not end; in FROZEN it counts nothing (R78, R90).
A step that started under HOLD while a peer's record showed trouble is tested again on the next sample, unless that
sample ends the step and an own trip falls on it: it freezes on that event when a record other than the station's
own still shows a trip or a loss, and takes no progress; otherwise it stays ACTIVE, unless a new loss falls on the
sample (R89). -/
def Obligations.DurationAndHoldRetest : Prop :=
  (∀ (s : State) (x : SampleInputs) (r : StepRecord), s.ready → s.undisputed → s.seq.image = some r →
     s.seq.retest = false → (s.seq.state = .active ∨ s.seq.state = .frozen) →
     ∃ t, exec (.sampleEvent x) s = .next t ∧ t.seq.state = s.seq.state ∧ t.seq.image = some r
       ∧ t.seq.pointer = s.seq.pointer ∧ t.seq.loop = s.seq.loop ∧ t.seq.out0 = s.seq.out0
       ∧ t.seq.out1 = s.seq.out1
       ∧ t.seq.progress
           = (if s.seq.state = .active ∧ (r.unit = .samples ∨ s.ctb.nextAdvance.ownWrap = true)
               then s.seq.progress + 1 else s.seq.progress))
    ∧ (∀ (s : State) (x : SampleInputs) (r : StepRecord), s.ready → s.seq.image = some r → s.seq.retest = true →
         s.seq.state = .active → s.syn.out = .live → s.policyInForce = .hold → ¬ s.tripDisputed →
         ∃ t, exec (.sampleEvent x) s = .next t ∧ t.seq.retest = false
           ∧ ((∃ n, n ≠ s.own ∧ ((s.ptb.peer n).tripped = true ∨ (s.ptb.peer n).state = .lost)) →
               t.seq.state = .frozen ∧ t.seq.progress = s.seq.progress ∧ t.ctb.f = s.ctb.f
                 ∧ (s.syn.safe = none → t.syn.level = s.syn.level))
           ∧ ((∀ n, n ≠ s.own → (s.ptb.peer n).tripped = false ∧ (s.ptb.peer n).state ≠ .lost) →
               ¬ s.lossAhead → t.seq.state = .active))

/-- A trip or a loss that falls on the sample of SEQ's own work is taken before it or after it where the manual
leaves the order open, and the model draws it (notes/assumptions/2.md). With an own trip due on a start sample, the
trip taken first keeps the step from starting, with the overlay slots as they stood, and comes next; taken second it
finds the step started (R49, R91). With a loss under FOLLOW it is the same (R155). Under HOLD and IGNORE the step
starts in either order, with the record LOST before it or still PRESENT after it (R89, R155). Under HOLD an ACTIVE
step freezes and counts nothing, or counts the sample and then meets the loss; its cycle is counted in either order
(R144, R164). An own trip comes after the cycle has been counted to a step in effect, and nothing is drawn (R151);
only on the sample that ends the step by its duration may it come first, and leaves the sample and its cycle
uncounted (R91, R144). Under FOLLOW a loss that comes before the count leaves the step and its cycle uncounted, and
one that comes second finds both counted (R144, R150, R155); under IGNORE they are counted in either order. On a
sample of both, a FOLLOW loss comes after the own trip (notes/assumptions/3.md). On the opening of an await gate a
trip or a FOLLOW loss taken first keeps the gate shut, and taken second finds it open; under HOLD and IGNORE it
opens in either order (R75, R129, R155). -/
def Obligations.CoincidentEventsTakeEitherOrder : Prop :=
  (∀ (s : State) (x : SampleInputs) (r : StepRecord), s.ready → s.startsOn r → s.tripAhead → ¬ s.lossAhead →
     ∃ t, exec (.sampleEvent x) s = .next t ∧ t.freeCount = s.freeCount + 1 ∧ t.ftu.tripDue = true
       ∧ t.seq.pointer = s.seq.pointer ∧ t.seq.image = some r
       ∧ (Config.freeOrder s.freeCount = true → t.seq.state = s.seq.state ∧ t.jnt.gate = s.jnt.gate
           ∧ t.ovl = s.ovl.advance ∧ t.syn.profile = s.syn.profile ∧ t.ftu.limit = s.ftu.limit)
       ∧ (Config.freeOrder s.freeCount = false → t.seq.state = .active ∧ t.jnt.gate = .idle
           ∧ t.ovl = s.ovl.advance.applyAll r.overlays))
    ∧ (∀ (s : State) (x : SampleInputs) (r : StepRecord), s.ready → s.startsOn r → ¬ s.tripAhead → s.lossAhead →
         ∃ t, exec (.sampleEvent x) s = .next t ∧ t.freeCount = s.freeCount + 1 ∧ t.seq.image = some r
           ∧ (s.stc.setup.policy = .follow → Config.freeOrder s.freeCount = true →
               t.seq.state = s.seq.state ∧ t.jnt.gate = s.jnt.gate ∧ t.ovl = s.ovl.advance ∧ t.anyLossDue = true)
           ∧ (s.stc.setup.policy ≠ .follow ∨ Config.freeOrder s.freeCount = false →
               t.seq.state = .active ∧ t.jnt.gate = .idle ∧ t.ovl = s.ovl.advance.applyAll r.overlays)
           ∧ (∀ n, s.expectedPeer n = true → (s.ptb.peer n).state = .present → 7 ≤ (s.ptb.peer n).age →
               (t.ptb.peer n).state
                 = if Config.freeOrder s.freeCount = true ∧ s.stc.setup.policy ≠ .follow then .lost else .present))
    ∧ (∀ (s : State) (x : SampleInputs) (r : StepRecord), s.ready → s.seq.state = .active → s.seq.image = some r →
         s.seq.retest = false → s.policyInForce = .hold → ¬ s.tripDisputed → s.lossAhead →
         (r.unit = .samples ∨ s.ctb.nextAdvance.ownWrap = true) →
         ∃ t, exec (.sampleEvent x) s = .next t ∧ t.freeCount = s.freeCount + 1
           ∧ (Config.freeOrder s.freeCount = true → t.seq.state = .frozen ∧ t.seq.progress = s.seq.progress
               ∧ t.anyLossDue = false)
           ∧ (Config.freeOrder s.freeCount = false → t.seq.state = .active ∧ t.seq.progress = s.seq.progress + 1
               ∧ t.anyLossDue = true)
           ∧ (s.ctb.nextAdvance.ownWrap = true → s.countsCycle t))
    ∧ (∀ (s : State) (x : SampleInputs) (r : StepRecord), s.ready → s.seq.image = some r → s.seq.retest = false →
         (s.seq.state = .active ∨ s.seq.state = .frozen) → s.tripAhead → (¬ s.lossAhead ∨ s.policyInForce = .follow) →
         let withheld := s.endsNext ∧ Config.freeOrder s.freeCount = true
         ∃ t, exec (.sampleEvent x) s = .next t ∧ t.ftu.tripDue = true
           ∧ t.seq.state = s.seq.state ∧ t.seq.image = some r ∧ t.seq.pointer = s.seq.pointer
           ∧ (s.endsNext → t.freeCount = s.freeCount + 1) ∧ (¬ s.endsNext → t.freeCount = s.freeCount)
           ∧ (withheld → t.seq.progress = s.seq.progress ∧ s.countsNoCycle t)
           ∧ (¬ withheld →
               t.seq.progress = s.seq.progress + (if s.seq.state = .active then 1 else 0) ∧ s.countsCycle t))
    ∧ (∀ (s : State) (x : SampleInputs) (r : StepRecord), s.ready → s.seq.image = some r → s.seq.retest = false →
         s.seq.state = .active → s.lossAhead →
         ((s.policyInForce = .follow ∧ ¬ s.tripAhead) ∨ (s.policyInForce = .ignore ∧ ¬ s.tripDisputed)) →
         let first := Config.freeOrder s.freeCount = true
         let wrap := s.ctb.nextAdvance.ownWrap = true
         ∃ t, exec (.sampleEvent x) s = .next t ∧ t.freeCount = s.freeCount + 1
           ∧ t.seq.state = .active ∧ t.seq.image = some r ∧ t.seq.pointer = s.seq.pointer
           ∧ (s.policyInForce = .follow ∧ first →
               t.seq.progress = s.seq.progress ∧ s.countsNoCycle t ∧ t.anyLossDue = true)
           ∧ (s.policyInForce = .ignore ∨ ¬ first →
               t.seq.progress = s.seq.progress + (if r.unit = .samples ∨ wrap then 1 else 0)
                 ∧ (wrap → s.countsCycle t))
           ∧ (s.policyInForce = .ignore ∧ first ↔ t.anyLossDue = false))
    ∧ (∀ (s : State) (x : SampleInputs) (r : StepRecord), s.ready → s.seq.state = .armed → s.seq.image = some r →
         s.seq.awaitOpen = false → s.seq.retest = false → s.jnt.gate = .idle → s.ctb.nextAdvance.ownWrap = true →
         awaitMet x.in0 x.in1 r.awaited = true → ((s.tripAhead ∧ ¬ s.lossAhead) ∨ (¬ s.tripAhead ∧ s.lossAhead)) →
         let shut := Config.freeOrder s.freeCount = true ∧ (s.tripAhead ∨ s.stc.setup.policy = .follow)
         ∃ t, exec (.sampleEvent x) s = .next t ∧ t.freeCount = s.freeCount + 1
           ∧ t.seq.image = some r ∧ t.seq.pointer = s.seq.pointer
           ∧ (shut → t.seq.state = .armed ∧ t.seq.awaitOpen = false ∧ t.jnt = s.jnt)
           ∧ (¬ shut → r.joint = none → t.seq.state = .armed ∧ t.seq.awaitOpen = true ∧ t.jnt = s.jnt)
           ∧ (¬ shut → ∀ j, r.joint = some j →
               t.seq.state = .gathering ∧ ∃ name, (s.setPtb t.ptb).opensGate t j name))

/-! ### Measurement and fold-back -/

/-- The RMS code is the greatest r in 0..32,768 with r² × N ≤ ΣV², and the level of a closed cycle is min(65,535,
floor(RMS × 14,142 / P_nom)), or 65,535 when a peak is 32,767 or more. The own wrap that closes a cycle forms them
with the P_nom in force (R141, R142). -/
def Obligations.CycleLevelIsTheExactRms : Prop :=
  (∀ (m : Fbm) (pNom : Nat), 1 ≤ m.samples → 1 ≤ pNom →
     rms m.sumSquares m.samples ≤ 32768
       ∧ rms m.sumSquares m.samples ^ 2 * m.samples ≤ m.sumSquares
       ∧ (∀ r, r ≤ 32768 → r ^ 2 * m.samples ≤ m.sumSquares → r ≤ rms m.sumSquares m.samples)
       ∧ m.closedLrms pNom
           = if m.peakV ≥ 32767 ∨ m.peakI ≥ 32767 then 65535
             else min 65535 (rms m.sumSquares m.samples * 14142 / pNom))
    ∧ ∀ (s : State) (x : SampleInputs), s.ready → s.ctb.nextAdvance.ownWrap = true → 1 ≤ s.fbm.samples →
        ∃ t, exec (.sampleEvent x) s = .next t ∧ t.fbm.lastLrms = s.fbm.closedLrms s.stc.setup.pNom

/-- FBM takes the codes of every sample event, whatever the states: into the open cycle, whose sum and count stop at
65,535 samples while the peaks still follow, or on an own wrap into a new cycle after the open one has been closed,
which sets the last-cycle level and, where no order is open on the sample, is counted to the step in effect (R138,
R139, R140, R143, R144, R145). -/
def Obligations.FeedbackIsMeasuredOnEverySample : Prop :=
  ∀ (s : State) (x : SampleInputs), s.ready →
    let open' := s.fbm.samples < 65535
    ∃ t, exec (.sampleEvent x) s = .next t
      ∧ (s.ctb.nextAdvance.ownWrap = false →
          t.fbm = { sumSquares := if open' then s.fbm.sumSquares + x.voltage.toInt.natAbs ^ 2 else s.fbm.sumSquares
                    samples := if open' then s.fbm.samples + 1 else s.fbm.samples
                    peakV := max s.fbm.peakV x.voltage.toInt.natAbs
                    peakI := max s.fbm.peakI x.current.toInt.natAbs, lastLrms := s.fbm.lastLrms })
      ∧ (s.ctb.nextAdvance.ownWrap = true →
          t.fbm = { sumSquares := x.voltage.toInt.natAbs ^ 2, samples := 1
                    peakV := x.voltage.toInt.natAbs, peakI := x.current.toInt.natAbs
                    lastLrms := s.fbm.closedLrms s.stc.setup.pNom }
          ∧ (s.noStart → s.undisputed → s.inEffect = true →
              t.seq.tally.cycles = min 65535 (s.seq.tally.cycles + 1)
              ∧ (s.seq.tally.lrms = none →
                  t.seq.tally.lrms
                    = some { lowest := s.fbm.closedLrms s.stc.setup.pNom
                             highest := s.fbm.closedLrms s.stc.setup.pNom })
              ∧ ∀ a b, s.seq.tally.lrms = some { lowest := a, highest := b } →
                  t.seq.tally.lrms
                    = some { lowest := min a (s.fbm.closedLrms s.stc.setup.pNom)
                             highest := max b (s.fbm.closedLrms s.stc.setup.pNom) })
          ∧ (s.noStart → s.inEffect = false → t.seq.tally = s.seq.tally))

/-- FTU compares on every sample event taken while the output is LIVE or FALLING, with the limit in force for the
sample, a start sample's own included: above the limit Φ falls by fold_step, not below 64, and otherwise it rises by
1, not above 1,024; while the output is DARK Φ keeps its value (R148, R149). An own wrap with the output LIVE or
FALLING closes a folded cycle when Φ is below 1,024: FOLDED is set, the streak rises, the cycle is counted to a step
in effect (where no order is open on the sample), and the own trip becomes due when the streak has reached a
non-zero trip_cycles and SEQ is neither TRIPPED nor FAULTED; with Φ at 1,024 the streak becomes 0; while DARK
nothing is tested (R150, R151). -/
def Obligations.FoldFactorAndFoldedCycles : Prop :=
  (∀ (s : State) (x : SampleInputs), s.ready →
     ∃ t, exec (.sampleEvent x) s = .next t
       ∧ (s.syn.out = .dark → t.ftu.phi = s.ftu.phi)
       ∧ (s.syn.out ≠ .dark →
           t.ftu.phi
             = if x.current.toInt.natAbs > t.ftu.limit then max 64 (s.ftu.phi - s.stc.setup.foldStep)
               else min 1024 (s.ftu.phi + 1))
       ∧ (s.noStart → t.ftu.limit = s.ftu.limit ∧ t.ftu.tripCycles = s.ftu.tripCycles
           ∧ t.ftu.stepPolicy = s.ftu.stepPolicy ∧ t.ftu.tripCause = s.ftu.tripCause))
    ∧ (∀ (s : State) (x : SampleInputs), s.ready → s.noStart → s.ctb.nextAdvance.ownWrap = true →
         ∃ t, exec (.sampleEvent x) s = .next t
           ∧ (s.syn.out ≠ .dark → s.ftu.phi < 1024 →
               t.ftu.folded = true ∧ t.ftu.streak = min 255 (s.ftu.streak + 1)
               ∧ (s.undisputed → t.ftu.foldedCycles
                   = (if s.inEffect = true then min 255 (s.ftu.foldedCycles + 1) else s.ftu.foldedCycles))
               ∧ (t.ftu.tripDue = true ↔
                   s.ftu.tripCycles ≠ 0 ∧ s.ftu.tripCycles ≤ min 255 (s.ftu.streak + 1)
                     ∧ s.seq.state ≠ .tripped ∧ s.seq.state ≠ .faulted))
           ∧ (s.syn.out ≠ .dark → ¬ s.ftu.phi < 1024 →
               t.ftu.streak = 0 ∧ t.ftu.folded = s.ftu.folded ∧ t.ftu.foldedCycles = s.ftu.foldedCycles
                 ∧ t.ftu.tripDue = false)
           ∧ (s.syn.out = .dark → t.ftu = s.ftu))

/-! ### The ends of a step -/

/-- The end of a step by its duration: PLS merges the pass into the slot with reason COMPLETED and `live` yes just
while a loop has passes remaining; RESULT follows when `notify` is yes, then STATUS ENDED in ACTIVE (the order of
the two: notes/assumptions/16.md); and a step marked `hold_after` enters HELD at its slot with STATUS HOLD (R57,
R69, R79, R81, R82). Without `hold_after`, a latched SUSPEND is honoured at the end: SUSPENDED at the next slot,
which is the ring start for a step marked `wrap` and the successor modulo 256 otherwise, with the latch clear, the
image gone and any open loop kept (R79 step 4). -/
def Obligations.StepEndHoldsOrSuspends : Prop :=
  ∀ (s : State) (r : StepRecord), s.running = true → s.seq.state = .active → s.seq.image = some r →
    (r.duration = none ∨ r.duration = some 0 ∨ (∃ n, r.duration = some n ∧ n.toNat ≤ s.seq.progress)) →
    let live : Bool := match s.seq.loop with
      | some l => decide (0 < l.remaining)
      | none => false
    let written := s.pls.setSlot s.seq.pointer
      ((s.pls.slot s.seq.pointer).written live .completed
        { cycles := s.seq.tally.cycles, lrms := s.seq.tally.lrms, limited := s.syn.limitedSamples
          folded := s.ftu.foldedCycles })
    let ended := (if r.notify then [FrameName.result s.seq.pointer live .completed] else []) ++ [.status .ended .active]
    (r.holdAfter = true →
        ∃ t, exec .stepDurationEnd s = .next t ∧ t.pls = written ∧ t.seq = { s.seq with state := .held }
          ∧ s.lnk.offersNamed t.lnk (ended ++ [.status .hold .held]) ∧ s.onlyChanges t [.pls, .seq, .lnk])
      ∧ (r.holdAfter = false → s.seq.suspendLatch = true →
        ∃ t, exec .stepDurationEnd s = .next t ∧ t.pls = written
          ∧ t.seq = { s.seq with state := .suspended, suspendLatch := false, image := none
                                 pointer := if r.wrap then s.seq.ringStart else s.seq.pointer + 1 }
          ∧ s.lnk.offersNamed t.lnk (ended ++ [.status .suspend .suspended])
          ∧ s.onlyChanges t [.pls, .seq, .lnk])

/-- Without `hold_after` and without a latched SUSPEND, SEQ writes the step back, moves to the next slot and takes a
step from there, as the write-back has left the plan. With a NORMAL live step there, that step is held in ARMED with
STATUS TAKEN, its gate open at once when it awaits nothing; when it awaits nothing and is joint, it is held in
GATHERING instead, with STATUS TAKEN and its JOIN or WITHDRAW. With a dead slot the plan is dry: IDLE, the loop
closed, the output as it was. With a LOOP_BEGIN inside an open loop SEQ faults with NESTED_LOOP at that slot, and
the output falls (R70, R71, R72, R75, R79 step 5, R92, R129). RESULT before STATUS ENDED:
notes/assumptions/16.md. -/
def Obligations.StepEndTakesTheNextStep : Prop :=
  ∀ (s : State) (r n : StepRecord) (next : Slot), s.running = true → s.seq.state = .active →
    s.seq.image = some r →
    (r.duration = none ∨ r.duration = some 0 ∨ (∃ k, r.duration = some k ∧ k.toNat ≤ s.seq.progress)) →
    r.holdAfter = false → s.seq.suspendLatch = false →
    let live : Bool := match s.seq.loop with
      | some l => decide (0 < l.remaining)
      | none => false
    let written := s.pls.setSlot s.seq.pointer
      ((s.pls.slot s.seq.pointer).written live .completed
        { cycles := s.seq.tally.cycles, lrms := s.seq.tally.lrms, limited := s.syn.limitedSamples
          folded := s.ftu.foldedCycles })
    let ended := (if r.notify then [FrameName.result s.seq.pointer live .completed] else []) ++ [.status .ended .active]
    next = (if r.wrap then s.seq.ringStart else s.seq.pointer + 1) → written.slot next = n →
    (n.live = true → n.kind = .normal → (n.joint = none ∨ n.awaited ≠ .none) →
        ∃ t, exec .stepDurationEnd s = .next t ∧ t.pls = written ∧ t.seq.state = .armed ∧ t.seq.image = some n
          ∧ t.seq.pointer = next ∧ t.seq.loop = s.seq.loop ∧ (t.seq.awaitOpen = true ↔ n.awaited = .none)
          ∧ s.lnk.offersNamed t.lnk (ended ++ [.status .taken .armed]) ∧ s.onlyChanges t [.pls, .seq, .lnk])
      ∧ (∀ j, n.live = true → n.kind = .normal → n.joint = some j → n.awaited = .none →
        ∃ t name, exec .stepDurationEnd s = .next t ∧ t.pls = written ∧ t.seq.state = .gathering
          ∧ t.seq.image = some n ∧ t.seq.pointer = next ∧ t.seq.loop = s.seq.loop ∧ s.opensGate t j name
          ∧ s.lnk.offersNamed t.lnk (ended ++ [.status .taken .gathering, name])
          ∧ s.onlyChanges t [.pls, .seq, .jnt, .lnk])
      ∧ (n.live = false →
        ∃ t, exec .stepDurationEnd s = .next t ∧ t.pls = written ∧ t.seq.state = .idle ∧ t.seq.image = none
          ∧ t.seq.pointer = next ∧ t.seq.loop = none
          ∧ s.lnk.offersNamed t.lnk (ended ++ [.status .dry .idle]) ∧ s.onlyChanges t [.pls, .seq, .lnk])
      ∧ (n.live = true → n.kind = .loopBegin → s.seq.loop ≠ none →
        ∃ t, exec .stepDurationEnd s = .next t ∧ t.pls = written ∧ t.seq.state = .faulted
          ∧ t.seq.faultCause = .nestedLoop ∧ t.seq.image = none ∧ t.seq.pointer = next ∧ t.seq.loop = none
          ∧ s.fallsTo t ∧ s.lnk.offersNamed t.lnk (ended ++ [.status .fault .faulted])
          ∧ s.onlyChanges t [.pls, .seq, .syn, .ovl, .ctb, .lnk])

/-- A write-back creates the outcome part with `passes` 1, or merges: counts added and saturating, the lower and the
higher Lrms, the reason of the pass; and keeps every other field of the record and every other slot (R56, R57). -/
def Obligations.WriteBackMergesThePass : Prop :=
  ∀ (p : Pls) (i j : Slot) (live : Bool) (reason : EndReason) (pass : Pass),
    let q := p.setSlot i ((p.slot i).written live reason pass)
    (j ≠ i → q.slot j = p.slot j) ∧ q.profiles = p.profiles
      ∧ q.slot i = { p.slot i with live := live, outcome := (q.slot i).outcome }
      ∧ ∃ o, (q.slot i).outcome = some o ∧ o.endReason = reason
        ∧ ((p.slot i).outcome = none →
            o.passes = 1 ∧ o.cyclesMeasured = min 65535 pass.cycles ∧ o.lrms = pass.lrms
              ∧ o.limitedSamples = min 65535 pass.limited ∧ o.foldedCycles = min 255 pass.folded)
        ∧ ∀ o', (p.slot i).outcome = some o' →
            o.passes = min 255 (o'.passes + 1) ∧ o.cyclesMeasured = min 65535 (o'.cyclesMeasured + pass.cycles)
              ∧ o.limitedSamples = min 65535 (o'.limitedSamples + pass.limited)
              ∧ o.foldedCycles = min 255 (o'.foldedCycles + pass.folded)
              ∧ (pass.lrms = none → o.lrms = o'.lrms) ∧ (o'.lrms = none → o.lrms = pass.lrms)
              ∧ ∀ a b, o'.lrms = some a → pass.lrms = some b →
                  o.lrms = some { lowest := min a.lowest b.lowest, highest := max a.highest b.highest }

/-- The walk of a taking acts on one loop marker after another: LOOP_BEGIN opens a loop at the next slot with its
`loop_count`, or, inside a loop, ends the walk nested with the pointer left there; LOOP_END returns to the loop's
start while passes remain, and goes on to the ring start or the next slot otherwise; a dead slot and a NORMAL step
end the walk; and with no marker left to read it ends at the limit (R70, R71, R72). A taking reads up to 1,024
markers (R73): here the taking of a RELEASE, which walks from the next slot and rests as the walk found it: dry,
with the step in hand, FAULTED with NESTED_LOOP at that LOOP_BEGIN, or, at the 1,024th marker, with MARKER_LIMIT to
follow at once and the pointer where that marker sent it. A ring of live LOOP_ENDs alone is such a walk (R73).
MARKER_LIMIT, when a taking has read its 1,024th marker: SEQ faults with that cause, the pointer is left where the
marker sent it, no step is written back, the loop, the latch and the image are cleared, the LIVE output falls, and
STATUS FAULT is offered (R73, R92); that otherwise the event does nothing is the model's choice
(notes/assumptions/8.md). -/
def Obligations.LoopMarkersAndTheirLimit : Prop :=
  (∀ (p : Pls) (ring at' : Slot) (fuel : Nat) (loop : Option OpenLoop),
     let r := p.slot at'
     let on := if r.wrap then ring else at' + 1
     walk p ring 0 at' loop = { pointer := at', loop := loop, found := .limit }
       ∧ (r.live = false → walk p ring (fuel + 1) at' loop = { pointer := at', loop := loop, found := .dry })
       ∧ (r.live = true → r.kind = .normal →
           walk p ring (fuel + 1) at' loop = { pointer := at', loop := loop, found := .step r })
       ∧ (r.live = true → r.kind = .loopBegin → loop = none →
           walk p ring (fuel + 1) at' loop
             = walk p ring fuel (at' + 1) (some { start := at' + 1, remaining := r.loopCount.toNat }))
       ∧ (r.live = true → r.kind = .loopBegin → loop ≠ none →
           walk p ring (fuel + 1) at' loop = { pointer := at', loop := loop, found := .nested })
       ∧ (r.live = true → r.kind = .loopEnd → loop = none →
           walk p ring (fuel + 1) at' loop = walk p ring fuel on none)
       ∧ ∀ l, loop = some l → r.live = true → r.kind = .loopEnd →
           walk p ring (fuel + 1) at' loop
             = if l.remaining = 0 then walk p ring fuel on none
               else walk p ring fuel l.start (some { l with remaining := l.remaining - 1 }))
    ∧ (∀ (p : Pls) (ring at' : Slot),
         (∀ i, (p.slot i).live = true ∧ (p.slot i).kind = .loopEnd) →
         (walk p ring 1024 at' none).found = .limit)
    ∧ (∀ (s : State) (req : Requester) (r : StepRecord), s.hearing → s.seq.state = .held → s.seq.image = some r →
         s.seq.suspendLatch = false →
         let w := walk s.pls s.seq.ringStart 1024 (if r.wrap then s.seq.ringStart else s.seq.pointer + 1) s.seq.loop
         let names := answerNames req .release 0 .ok ++ [.status .release .held]
         ∃ t, exec (.release req) s = .next t ∧ t.seq.pointer = w.pointer
           ∧ (w.found = .dry → t.seq.state = .idle ∧ t.seq.image = none ∧ t.seq.loop = none
               ∧ s.lnk.frameEnded.offersNamed t.lnk (names ++ [.status .dry .idle]))
           ∧ (∀ n, w.found = .step n → t.seq.image = some n ∧ t.seq.loop = w.loop
               ∧ ((n.joint = none ∨ n.awaited ≠ .none) → t.seq.state = .armed
                   ∧ s.lnk.frameEnded.offersNamed t.lnk (names ++ [.status .taken .armed]))
               ∧ (∀ j, n.joint = some j → n.awaited = .none → t.seq.state = .gathering
                   ∧ ∃ name, s.opensGate t j name
                       ∧ s.lnk.frameEnded.offersNamed t.lnk (names ++ [.status .taken .gathering, name])))
           ∧ (w.found = .nested → t.seq.state = .faulted ∧ t.seq.faultCause = .nestedLoop ∧ t.seq.image = none
               ∧ t.seq.loop = none ∧ s.fallsTo t
               ∧ s.lnk.frameEnded.offersNamed t.lnk (names ++ [.status .fault .faulted]))
           ∧ (w.found = .limit → s.lnk.frameEnded.offersNamed t.lnk names ∧ t.due = true
               ∧ ∃ u, exec .markerLimit t = .next u ∧ u.seq.state = .faulted ∧ u.seq.faultCause = .markerLimit
                   ∧ u.seq.pointer = w.pointer ∧ u.seq.loop = none ∧ s.fallsTo u ∧ u.pls = s.pls
                   ∧ t.lnk.offersNamed u.lnk [.status .fault .faulted]))
    ∧ (∀ s : State, s.running = true →
         (s.seq.markerLimit = false → exec .markerLimit s = .next s)
           ∧ (s.seq.markerLimit = true → s.seq.image = none → s.seq.state ≠ .faulted → s.seq.state ≠ .gathering →
               ∃ t, exec .markerLimit s = .next t ∧ t.seq.state = .faulted ∧ t.seq.faultCause = .markerLimit
                 ∧ t.seq.pointer = s.seq.pointer ∧ t.seq.loop = none ∧ t.seq.suspendLatch = false
                 ∧ t.seq.image = none ∧ t.seq.markerLimit = false ∧ s.fallsTo t
                 ∧ s.lnk.offersNamed t.lnk [.status .fault .faulted]
                 ∧ s.onlyChanges t [.seq, .syn, .ovl, .ctb, .lnk]))

/-! ### Trips, peers, FROZEN -/

/-- OWN_TRIP: the trip cause is FOLDBACK, TRIP is offered with the slot SEQ holds or the pointer, the output falls,
and SEQ is TRIPPED with no loop, latch or image, with STATUS TRIP last (R91, R151, R153). From ACTIVE and FROZEN the
step is written back TRIPPED with `live` no, any RESULT follows the TRIP, and the pointer moves on; from HELD the
pointer moves on; from ARMED, SUSPENDED and IDLE it is kept; from GATHERING it is kept, JNT removes its JOIN and
offers WITHDRAW with OWN_TRIP, and the gate is IDLE (R91, R137). A fault that a taking has already met is carried
first, and then no trip is made (R73, R92, R151). Without a folded cycle that reached the trip_cycles in force
OWN_TRIP leaves the state as it is: the model's choice (notes/assumptions/8.md). -/
def Obligations.OwnTripEndsTheStep : Prop :=
  (∀ s : State, s.running = true → s.ftu.tripDue = true → s.seq.markerLimit = false →
     s.seq.state ≠ .tripped → s.seq.state ≠ .faulted →
     ∃ t, exec .ownTrip s = .next t
       ∧ t.ftu = { s.ftu with tripDue := false, tripCause := some .foldback } ∧ s.tripsTo t s.lnk .foldback [])
    ∧ (∀ s : State, s.running = true → s.ftu.tripDue = true → s.seq.markerLimit = true →
         ∃ t u, exec .markerLimit s = .next t ∧ exec .ownTrip s = .next u
           ∧ u = t.setFtu { t.ftu with tripDue := false } ∧ u.seq.state = .faulted)
    ∧ (∀ s : State, s.running = true → s.ftu.tripDue = false → exec .ownTrip s = .next s)

/-- PEER_LOST: the record of an expected peer at age 8 or more becomes LOST and keeps its other fields (R122). With
the station outside any open barrier: under IGNORE, and in TRIPPED, FAULTED and IDLE with the output DARK, nothing
else changes; under FOLLOW the station trips with cause PEER_LOST, as from its state an own trip does; under HOLD an
ACTIVE step freezes with STATUS FREEZE, and no other state is changed (R89, R91, R154, R155, R156). The lock
evaluation of the wrap that made the loss comes after its last loss (R122, R123). That the end of a step, or a fault
of a taking, that is due comes first is the model's (notes/assumptions/3.md). That the event for a record that is
not due changes nothing is the model's choice (notes/assumptions/8.md). -/
def Obligations.PeerLostMarksTheRecord : Prop :=
  (∀ (s : State) (n : Station), s.running = true → s.lossDue n = false → exec (.peerLost n) s = .next s)
    ∧ (∀ (s : State) (n : Station), s.running = true → s.lossDue n = true →
         ∃ t u, exec .stepDurationEnd s = .next t ∧ exec .markerLimit t = .next u
           ∧ u.endingStep = none ∧ u.seq.markerLimit = false ∧ exec (.peerLost n) s = exec (.peerLost n) u)
    ∧ (∀ (s : State) (n : Station), s.running = true → s.endingStep = none → s.seq.markerLimit = false →
         s.lck.waiting = none →
         n.toNat < s.count → n ≠ s.own → (s.ptb.peer n).state = .present → 8 ≤ (s.ptb.peer n).age →
         let excluded := s.seq.state = .tripped ∨ s.seq.state = .faulted ∨ (s.seq.state = .idle ∧ s.syn.out = .dark)
         let lost := s.setPtb (s.ptb.setPeer n { s.ptb.peer n with state := .lost })
         ∃ t, exec (.peerLost n) s = .next t
           ∧ t.ptb.peer n = { s.ptb.peer n with state := .lost } ∧ (∀ m, m ≠ n → t.ptb.peer m = s.ptb.peer m)
           ∧ (s.jnt.gate ≠ .opened ∨ maskHas s.jnt.mask n = false →
               (excluded ∨ s.policyInForce = .ignore → t = lost)
               ∧ (¬ excluded → s.policyInForce = .hold →
                   (s.seq.state ≠ .active → t = lost)
                   ∧ (s.seq.state = .active → t.seq = { s.seq with state := .frozen }
                       ∧ s.lnk.offersNamed t.lnk [.status .freeze .frozen] ∧ s.onlyChanges t [.ptb, .seq, .lnk]))
               ∧ (¬ excluded → s.policyInForce = .follow →
                   s.tripsTo t s.lnk .peerLost [.ptb] ∧ t.ftu = { s.ftu with tripCause := some .peerLost })))
    ∧ (∀ (s : State) (n : Station) (fBase : Nat), s.running = true → s.lossDue n = true →
         s.lck.waiting = some fBase →
         ∃ t, exec (.peerLost n) (s.setLck { s.lck with waiting := none }) = .next t
           ∧ exec (.peerLost n) s
             = .next (if t.anyLossDue = true then t.setLck { t.lck with waiting := some fBase }
                 else t.evaluateLock fBase))

/-- TRIP_RECEIVED from another station, whatever cause it carries: the sender's tripped flag is set and its other
fields are kept; a station already TRIPPED or FAULTED, or IDLE with the output DARK, does nothing more than end the
frame, and so does every station for a TRIP whose sender's flag was already set (R120, R121, R154). Under FOLLOW a
peer's trip trips an ACTIVE, ARMED, HELD, SUSPENDED or LIVE IDLE station with cause FOLLOWED, as from its state an
own trip does, TRIP(FOLLOWED) first (R91); under HOLD it freezes an ACTIVE step, and its duration, with STATUS
FREEZE, and changes no other state; under IGNORE it does nothing beyond the record (R89, R155, R156). A MARK that
carries TRIPPED, from a station whose flag is clear, is acted on in the same way, and one whose sender's flag is set
changes nothing beyond the sender's record (R118, R121, R154). -/
def Obligations.TripReceivedFollowsThePolicy : Prop :=
  (∀ (s : State) (n : Station) (cause : TripCause) (slot : Slot), s.hearing → n ≠ s.own →
     ∃ t, exec (.tripReceived n cause slot) s = .next t
       ∧ t.ptb.peer n = { s.ptb.peer n with tripped := true } ∧ (∀ m, m ≠ n → t.ptb.peer m = s.ptb.peer m)
       ∧ ((s.seq.state = .tripped ∨ s.seq.state = .faulted) → s.jnt.gate = .idle →
           s.onlyChanges t [.ptb, .lnk] ∧ t.lnk = s.lnk.frameEnded)
       ∧ ((s.ptb.peer n).tripped = true → t.ptb = s.ptb))
    ∧ (∀ (s : State) (n : Station) (c : Instr), s.hearing → n ≠ s.own →
         ((∃ cause slot, c = .tripReceived n cause slot) ∨ ∃ m : MarkFields, c = .markReceived n m ∧ m.seq = .tripped) →
         ((s.ptb.peer n).tripped = true
           ∨ (s.jnt.gate = .idle ∧ (s.seq.state = .tripped ∨ s.seq.state = .faulted
               ∨ (s.seq.state = .idle ∧ s.syn.out = .dark)))) →
         ∃ t, exec c s = .next t ∧ (t.ptb.peer n).tripped = true ∧ (∀ m, m ≠ n → t.ptb.peer m = s.ptb.peer m)
           ∧ t.lnk = s.lnk.frameEnded ∧ s.onlyChanges t [.ptb, .lnk])
    ∧ (∀ (s : State) (n : Station) (c : Instr), s.hearing → n ≠ s.own →
         ((∃ cause slot, c = .tripReceived n cause slot) ∨ ∃ m : MarkFields, c = .markReceived n m ∧ m.seq = .tripped) →
         (s.ptb.peer n).tripped = false → s.jnt.gate = .idle →
         ¬ (s.seq.state = .tripped ∨ s.seq.state = .faulted ∨ (s.seq.state = .idle ∧ s.syn.out = .dark)) →
         ∃ t, exec c s = .next t ∧ (t.ptb.peer n).tripped = true
           ∧ (s.policyInForce = .follow →
               s.tripsTo t s.lnk.frameEnded .followed [.ptb] ∧ t.ftu = { s.ftu with tripCause := some .followed })
           ∧ (s.policyInForce = .hold → s.seq.state = .active →
               t.seq = { s.seq with state := .frozen } ∧ s.onlyChanges t [.ptb, .seq, .lnk]
                 ∧ s.lnk.frameEnded.offersNamed t.lnk [.status .freeze .frozen])
           ∧ (s.policyInForce = .hold → s.seq.state ≠ .active →
               s.onlyChanges t [.ptb, .lnk] ∧ t.lnk = s.lnk.frameEnded)
           ∧ (s.policyInForce = .ignore → s.onlyChanges t [.ptb, .lnk] ∧ t.lnk = s.lnk.frameEnded))

/-- STATUS_RECEIVED from another station updates its reported state, drops its join tag unless that state is
GATHERING, and clears its tripped flag for the causes START, CLEAR and FAULT with a state other than TRIPPED alone;
presence, age, error and freshness are kept (R120). SEQ leaves FROZEN for ACTIVE, with STATUS THAW, on the change
after which no record but its own shows a trip or a loss: here a STATUS with cause CLEAR or START from the one peer
in trouble (R89, R120, R156). -/
def Obligations.StatusReceivedUpdatesAndThaws : Prop :=
  (∀ (s : State) (n : Station) (cause : StatusCause) (seq : SeqState), s.hearing → n ≠ s.own →
     ∃ t, exec (.statusReceived n cause seq) s = .next t ∧ (∀ m, m ≠ n → t.ptb.peer m = s.ptb.peer m)
       ∧ t.ptb.peer n
           = { s.ptb.peer n with
               reported := seq
               joinTag := if seq = .gathering then (s.ptb.peer n).joinTag else none
               tripped := if seq ≠ .tripped ∧ (cause = .start ∨ cause = .clear ∨ cause = .fault) then false
                          else (s.ptb.peer n).tripped })
    ∧ (∀ (s : State) (n : Station) (cause : StatusCause) (seq : SeqState), s.hearing → n ≠ s.own →
         s.seq.state = .frozen → (s.ptb.peer n).tripped = true → (s.ptb.peer n).state ≠ .lost →
         (∀ m, m ≠ s.own → m ≠ n → (s.ptb.peer m).tripped = false ∧ (s.ptb.peer m).state ≠ .lost) →
         seq ≠ .tripped → cause = .clear ∨ cause = .start ∨ cause = .fault →
         ∃ t, exec (.statusReceived n cause seq) s = .next t
           ∧ t.seq = { s.seq with state := .active } ∧ (t.ptb.peer n).tripped = false
           ∧ s.lnk.frameEnded.offersNamed t.lnk [.status .thaw .active] ∧ s.onlyChanges t [.ptb, .seq, .lnk])

/-- MARK_RECEIVED from an expected peer, with no capture since its start bit: the record is PRESENT, at age 0,
fresh, with the error (θc at the start tick − floor(age × F_eff′ / 1,600)) read as signed, the reported state of the
MARK, the tripped flag just when it carries TRIPPED, and no join tag unless it carries GATHERING; from a number at
or above the count, or after a capture, error and freshness are kept (R118, R119). A MARK that no longer carries
TRIPPED, from the one peer in trouble, tripped or LOST, takes SEQ from FROZEN to ACTIVE with STATUS THAW (R89, R121,
R156). -/
def Obligations.MarkReceivedMeasuresThePeer : Prop :=
  (∀ (s : State) (n : Station) (m : MarkFields), s.hearing → n ≠ s.own →
    ∃ t, exec (.markReceived n m) s = .next t ∧ (∀ k, k ≠ n → t.ptb.peer k = s.ptb.peer k)
      ∧ (t.ptb.peer n).state = .present ∧ (t.ptb.peer n).age = 0 ∧ (t.ptb.peer n).reported = m.seq
      ∧ ((t.ptb.peer n).tripped = true ↔ m.seq = .tripped)
      ∧ (t.ptb.peer n).joinTag = (if m.seq = .gathering then (s.ptb.peer n).joinTag else none)
      ∧ (n.toNat < s.count → s.lnk.latch.captured = false →
          (t.ptb.peer n).fresh = true
            ∧ (t.ptb.peer n).error
                = (s.lnk.latch.thetaC - BitVec.ofNat 32 (m.age.toNat * s.lnk.latch.fEff / 1600)).toInt)
      ∧ (¬ n.toNat < s.count ∨ s.lnk.latch.captured = true →
          (t.ptb.peer n).fresh = (s.ptb.peer n).fresh ∧ (t.ptb.peer n).error = (s.ptb.peer n).error))
    ∧ (∀ (s : State) (n : Station) (m : MarkFields), s.hearing → n ≠ s.own → s.seq.state = .frozen →
         ((s.ptb.peer n).tripped = true ∨ (s.ptb.peer n).state = .lost) → m.seq ≠ .tripped →
         (∀ k, k ≠ s.own → k ≠ n → (s.ptb.peer k).tripped = false ∧ (s.ptb.peer k).state ≠ .lost) →
         ∃ t, exec (.markReceived n m) s = .next t ∧ t.seq = { s.seq with state := .active }
           ∧ (t.ptb.peer n).tripped = false ∧ (t.ptb.peer n).state = .present
           ∧ s.lnk.frameEnded.offersNamed t.lnk [.status .thaw .active] ∧ s.onlyChanges t [.ptb, .seq, .lnk])

/-- The station's own frames, received after the station sent them (the frame in its shifter), empty the shifter and
update its own record: MARK leaves its presence, error, freshness and age and sets the reported state, the tripped
flag and the join tag; TRIP sets the tripped flag, and FTU takes no action; STATUS updates it as any other's; and in
every state, in FROZEN while another record shows a trip or a loss, nothing else changes; its RESULT, ANSWER and
STEP_COPY empty the shifter alone (R89, R102, R105, R117, R118, R120, R153). A frame of the station's number that it
did not send is a duplicate number, which does not reach PTB and faults SEQ: a step in effect is written back
ABORTED and the pointer moves on, a HELD step moves it on, in GATHERING JNT withdraws with ABORTED, and a further
fault is not recorded (R92, R99, R137). REPLY_FRAME_RECEIVED and IGNORED_FRAME_RECEIVED from another number do
nothing but end the frame on the line: no flag, no count, no block (R101, R102); an ignored frame under the
station's own number is a duplicate number (R99). That a frame is the station's own when the shifter holds one of
the same content, and a duplicate when the shifter is empty, is the model's reading (notes/assumptions/13.md). -/
def Obligations.OwnNumberAndUntakenFrames : Prop :=
  (∀ (s : State) (x : Shifter), s.hearing → s.lnk.shifter = some x →
     let sent := { s.lnk.frameEnded with shifter := none }
     let keeps (t : State) : Prop :=
       (s.seq.state ≠ .frozen ∨ ∃ n, n ≠ s.own ∧ ((s.ptb.peer n).tripped = true ∨ (s.ptb.peer n).state = .lost)) →
         t.lnk = sent ∧ s.onlyChanges t [.ptb, .lnk]
     (∀ m, x.payload = .mark m →
         ∃ t, exec (.markReceived s.own m) s = .next t ∧ t.lnk.shifter = none ∧ keeps t
           ∧ t.ptb = s.ptb.setPeer s.own
               { s.ptb.peer s.own with
                 reported := m.seq, tripped := decide (m.seq = .tripped)
                 joinTag := if m.seq = .gathering then (s.ptb.peer s.own).joinTag else none })
       ∧ (∀ cause slot, x.payload = .trip cause slot →
         ∃ t, exec (.tripReceived s.own cause slot) s = .next t ∧ t.lnk.shifter = none ∧ keeps t
           ∧ t.ptb = s.ptb.setPeer s.own { s.ptb.peer s.own with tripped := true })
       ∧ (∀ y : Summary, x.payload = .status y →
         ∃ t, exec (.statusReceived s.own y.cause y.seq) s = .next t ∧ t.lnk.shifter = none ∧ keeps t
           ∧ t.ptb = s.ptb.setPeer s.own
               { s.ptb.peer s.own with
                 reported := y.seq
                 joinTag := if y.seq = .gathering then (s.ptb.peer s.own).joinTag else none
                 tripped := if y.seq ≠ .tripped ∧ (y.cause = .start ∨ y.cause = .clear ∨ y.cause = .fault) then false
                            else (s.ptb.peer s.own).tripped })
       ∧ (∀ kind, ((∃ slot live o, x.payload = .result slot live o ∧ kind = .result)
             ∨ (∃ k first code, x.payload = .answer k first code ∧ kind = .answer)
             ∨ ∃ slot r, x.payload = .stepCopy slot r ∧ kind = .stepCopy) →
         exec (.replyFrameReceived s.own kind) s = .next (s.setLnk sent)))
    ∧ (∀ (s : State) (c : Instr), s.hearing → c.stationFrom = some s.own →
         (∀ x, s.lnk.shifter = some x → x.payload.heard s.own ≠ c) →
         (s.seq.state ≠ .faulted →
             ∃ t, exec c s = .next t ∧ s.faultsTo t s.lnk.frameEnded .duplicateNumber)
           ∧ (s.seq.state = .faulted → exec c s = .next (s.setLnk s.lnk.frameEnded)))
    ∧ (∀ s : State, s.hearing →
         (∀ n k, n ≠ s.own → exec (.replyFrameReceived n k) s = .next (s.setLnk s.lnk.frameEnded))
           ∧ (∀ n : NodeNumber, n.toNat ≠ s.own.toNat →
               exec (.ignoredFrameReceived n) s = .next (s.setLnk s.lnk.frameEnded))
           ∧ (s.seq.state ≠ .faulted →
               ∃ t, exec (.ignoredFrameReceived (s.own.setWidth 4)) s = .next t
                 ∧ s.faultsTo t s.lnk.frameEnded .duplicateNumber))

/-! ### Joint steps -/

/-- JOIN_RECEIVED, from another station or the station's own back from its shifter, sets the sender's join tag;
while the gate is OPEN or WITHDRAWING the station's own JOIN with the gathering tag sets the own-join flag, and the
barrier completes on the JOIN just when that flag is set and every station of the mask holds the gathering tag; a
completed gate removes the WITHDRAW it had queued. Otherwise the gate stays as it is, and in IDLE or COMPLETE JNT
does nothing (R109, R120, R130, R131). Which of the frames of the station's number are its own:
notes/assumptions/13.md. -/
def Obligations.JoinCompletesTheBarrier : Prop :=
  ∀ (s : State) (n : Station) (tag : Tag) (mask : Mask), s.hearing →
    (n = s.own → ∃ x, s.lnk.shifter = some x ∧ x.payload = .join tag mask) →
    let heard := if n = s.own then { s.lnk.frameEnded with shifter := none } else s.lnk.frameEnded
    let ownJoin := s.jnt.ownJoin = true ∨ (n = s.own ∧ tag = s.jnt.tag)
    ∃ t, exec (.joinReceived n tag mask) s = .next t
      ∧ t.ptb = s.ptb.setPeer n { s.ptb.peer n with joinTag := some tag }
      ∧ s.onlyChanges t [.ptb, .jnt, .lnk]
      ∧ (s.jnt.gate = .opened ∨ s.jnt.gate = .withdrawing →
          (t.jnt.gate = .complete ↔ ownJoin ∧
            ∀ m, maskHas s.jnt.mask m = true → (t.ptb.peer m).joinTag = some s.jnt.tag)
          ∧ (t.jnt.ownJoin = true ↔ ownJoin)
          ∧ (t.jnt.gate = .complete →
              t.jnt = { s.jnt with gate := .complete, ownJoin := true, angleTest := false }
                ∧ (s.jnt.withdrawRef = none → t.lnk = heard)
                ∧ ∀ reason, s.jnt.withdrawRef = some reason →
                    t.lnk = heard.remove (Payload.isWithdraw s.jnt.tag reason))
          ∧ (t.jnt.gate ≠ .complete → t.jnt = { s.jnt with ownJoin := t.jnt.ownJoin } ∧ t.lnk = heard))
      ∧ (s.jnt.gate = .idle ∨ s.jnt.gate = .complete → t.jnt = s.jnt ∧ t.lnk = heard)

/-- WITHDRAW_RECEIVED with the gathering tag, from another station or the station's own back from its shifter, for
any reason, while the gate is OPEN or WITHDRAWING: the sender's join tag is gone, JNT removes its own JOIN and
WITHDRAW for the tag, the step is written back WITHDRAWN with no measure, SEQ is SUSPENDED at the next slot with its
loop kept, with any RESULT and STATUS WITHDRAWN, the gate is IDLE and the output is unchanged. With another tag, or
in COMPLETE or IDLE, the sender's join tag alone changes (R109, R120, R134, R135). Which of the frames of the
station's number are its own: notes/assumptions/13.md. -/
def Obligations.WithdrawAbandonsTheBarrier : Prop :=
  ∀ (s : State) (n : Station) (tag : Tag) (reason : WithdrawReason), s.hearing →
    (n = s.own → ∃ x, s.lnk.shifter = some x ∧ x.payload = .withdraw tag reason) →
    let heard := if n = s.own then { s.lnk.frameEnded with shifter := none } else s.lnk.frameEnded
    ∃ t, exec (.withdrawReceived n tag reason) s = .next t
      ∧ t.ptb = s.ptb.setPeer n { s.ptb.peer n with joinTag := none } ∧ t.syn = s.syn
      ∧ (∀ r, (s.jnt.gate = .opened ∨ s.jnt.gate = .withdrawing) → tag = s.jnt.tag → s.seq.image = some r →
          t.seq = { s.seq with state := .suspended, image := none
                               pointer := if r.wrap then s.seq.ringStart else s.seq.pointer + 1 }
          ∧ t.jnt = { s.jnt with gate := .idle }
          ∧ t.pls = s.pls.setSlot s.seq.pointer
              ((s.pls.slot s.seq.pointer).written false .withdrawn
                { cycles := 0, lrms := none, limited := 0, folded := 0 })
          ∧ ((heard.remove (Payload.isJoinFor tag)).remove (Payload.isWithdrawFor tag)).offersNamed t.lnk
              ((if r.notify then [.result s.seq.pointer false .withdrawn] else [])
                ++ [.status .withdrawn .suspended])
          ∧ s.onlyChanges t [.ptb, .pls, .seq, .jnt, .lnk])
      ∧ ((s.jnt.gate = .idle ∨ s.jnt.gate = .complete ∨ tag ≠ s.jnt.tag) →
          s.onlyChanges t [.ptb, .lnk] ∧ t.lnk = heard)

/-- GATHER_TIMEOUT, when an OPEN gate's common wraps since entry have reached the timeout: JNT removes its queued
JOIN for the tag, offers WITHDRAW TIMEOUT, records the reason and goes to WITHDRAWING, and nothing else changes
(R109, R133); that otherwise the event does nothing is the model's choice (notes/assumptions/8.md). A trip or loss
of another station of the mask while the gate is OPEN makes JNT remove its JOIN, offer WITHDRAW with PEER_TRIP or
PEER_LOST and go to WITHDRAWING, whatever the policy; under FOLLOW FTU trips the station as well, before JNT's
reaction, which then finds the gate IDLE, or after it (R136, R155; the order is drawn: notes/assumptions/2.md). In
every other gate state, and for a station outside the mask, JNT does nothing (R136). -/
def Obligations.TimeoutAndMaskedTroubleWithdraw : Prop :=
  (∀ s : State, s.running = true →
     (s.jnt.gate = .opened → s.jnt.timeout ≤ (s.ctb.commonCycles - s.jnt.entry).toNat →
         ∃ t, exec .gatherTimeout s = .next t
           ∧ t.jnt = { s.jnt with gate := .withdrawing, withdrawRef := some .timeout }
           ∧ t.lnk = (s.lnk.remove (Payload.isJoinFor s.jnt.tag)).offer (.frame 15 (.withdraw s.jnt.tag .timeout))
           ∧ s.onlyChanges t [.jnt, .lnk])
       ∧ (s.jnt.gate ≠ .opened ∨ (s.ctb.commonCycles - s.jnt.entry).toNat < s.jnt.timeout →
           exec .gatherTimeout s = .next s))
    ∧ (∀ (s : State) (n : Station) (c : Instr) (heard : Lnk) (cause : TripCause) (reason : WithdrawReason),
         s.seq.state = .gathering → n ≠ s.own →
         ((s.hearing ∧ (s.ptb.peer n).tripped = false ∧ heard = s.lnk.frameEnded ∧ cause = .followed
             ∧ reason = .peerTrip
             ∧ ((∃ k slot, c = .tripReceived n k slot)
                 ∨ ∃ m : MarkFields, c = .markReceived n m ∧ m.seq = .tripped))
           ∨ (s.running = true ∧ s.lossDue n = true ∧ s.seq.markerLimit = false ∧ s.lck.waiting = none
             ∧ heard = s.lnk
               ∧ cause = .peerLost ∧ reason = .peerLost ∧ c = .peerLost n)) →
         let removed (l : Lnk) := l.remove (Payload.isJoinFor s.jnt.tag)
         let withdrawn (l : Lnk) (why : WithdrawReason) := (removed l).offer (.frame 15 (.withdraw s.jnt.tag why))
         let tripped (l : Lnk) := l.offer (.frame 15 (.trip cause s.seq.pointer))
         ∃ t, exec c s = .next t
           ∧ (s.policyInForce ≠ .follow → s.jnt.gate = .opened → maskHas s.jnt.mask n = true →
               t.jnt = { s.jnt with gate := .withdrawing, withdrawRef := some reason }
                 ∧ t.lnk = withdrawn heard reason ∧ s.onlyChanges t [.ptb, .jnt, .lnk])
           ∧ (s.policyInForce ≠ .follow → (s.jnt.gate ≠ .opened ∨ maskHas s.jnt.mask n = false) →
               t.lnk = heard ∧ s.onlyChanges t [.ptb, .lnk])
           ∧ (s.policyInForce = .follow → s.jnt.gate ≠ .idle →
               t.seq.state = .tripped ∧ t.seq.pointer = s.seq.pointer ∧ t.ftu.tripCause = some cause
                 ∧ t.jnt.gate = .idle ∧ t.pls = s.pls ∧ s.fallsTo t
                 ∧ (s.jnt.gate = .opened → maskHas s.jnt.mask n = true → Config.freeOrder s.freeCount = true →
                     (withdrawn (tripped (withdrawn heard reason)) .ownTrip).offersNamed t.lnk
                       [.status .trip .tripped])
                 ∧ ((s.jnt.gate ≠ .opened ∨ maskHas s.jnt.mask n = false ∨ Config.freeOrder s.freeCount = false) →
                     (withdrawn (tripped heard) .ownTrip).offersNamed t.lnk [.status .trip .tripped])))

/-! ### The station link -/

/-- LINE_IDLE outside a frame makes the line idle; a start bit seen on the idle line begins a frame and latches the
start tick, the common phase at that tick and the effective increment; a dominant bit on a line that is not idle
begins no frame and sets the count of recessive bits to 0 (R13, R95, R119). BAD_FRAME sets RX_CHECK and counts up to
255 and reaches no block; the station's own aborted frame is discarded without either (R98, R100, R114). A frame
that LNK has not begun to assemble is not received: its end leaves the station as it is, of whatever kind it is
(R95). -/
def Obligations.LineEventsAndBadFrames : Prop :=
  (∀ (s : State) (elapsed : Nat), s.ready → s.lnk.assembling = false → s.ctb.divider + elapsed ≤ 1599 →
     (exec .lineIdle s = .next (s.setLnk { s.lnk with lineIdle := true, recessive := 11 }))
       ∧ (s.lnk.lineIdle = true → exec (.startBitSeen elapsed) s = .next (s.startBitAfter elapsed s.lnk))
       ∧ (s.lnk.lineIdle = false →
           exec .dominantBitNotIdle s = .next (s.setLnk { s.lnk with recessive := 0 })))
    ∧ (∀ s : State, s.hearing →
         (s.lnk.ownAborted = false →
             exec .badFrame s
               = .next (s.setLnk { s.lnk.frameEnded with
                   rxCheck := true, checkErrors := min 255 (s.lnk.checkErrors + 1) }))
           ∧ (s.lnk.ownAborted = true → exec .ownAbortedFrameDiscarded s = .next (s.setLnk s.lnk.frameEnded)))
    ∧ (∀ (c : Instr) (s : State), c.isFrame = true → s.ready → s.lnk.assembling = false → exec c s = .next s)

/-- TRANSMIT_START on an idle line moves the first entry of the queue into the shifter when it is not a stale MARK,
and its start bit begins a frame that LNK assembles like any other: a MARK is filled with its age and the states as
they stand at that tick, any other frame goes as offered. A stale MARK at the head (age above 65,535) is discarded
with MARK_STALE, and the entry behind it is taken in its place (R95, R97, R105, R110, R119). With an empty queue
nothing starts. -/
def Obligations.TransmitStartTakesTheFirstEntry : Prop :=
  ∀ (s : State) (elapsed : Nat), s.ready → s.ctb.divider + elapsed ≤ 1599 → s.lnk.lineIdle = true →
    s.lnk.shifter = none →
    let now := s.ctb.tick + BitVec.ofNat 32 elapsed
    let sends (e : TxEntry) (p : Payload) (rest : List TxEntry) (stale : Bool) := s.startBitAfter elapsed
      { s.lnk with queue := rest, shifter := some { entry := e, payload := p, discard := false }
                   markStale := s.lnk.markStale || stale }
    (∀ e a p rest, s.lnk.queue = e :: rest → e.item = .frame a p →
        exec (.transmitStart elapsed) s = .next (sends e p rest false))
      ∧ (∀ e i rest, s.lnk.queue = e :: rest → e.item = .mark i → (now - i).toNat ≤ 65535 →
        exec (.transmitStart elapsed) s
          = .next (sends e
              (.mark { age := BitVec.ofNat 16 (now - i).toNat, lock := s.lck.state, seq := s.seq.state
                       out := s.syn.out, slot := s.seq.pointer }) rest false))
      ∧ (∀ e i, s.lnk.queue = [e] → e.item = .mark i → 65535 < (now - i).toNat →
        ∃ t, exec (.transmitStart elapsed) s = .next t
          ∧ t.lnk = { s.lnk with queue := [], markStale := true } ∧ s.onlyChanges t [.ctb, .lnk])
      ∧ (∀ e i e' a p rest, s.lnk.queue = e :: e' :: rest → e.item = .mark i → 65535 < (now - i).toNat →
        e'.item = .frame a p → exec (.transmitStart elapsed) s = .next (sends e' p rest true))
      ∧ (s.lnk.queue = [] → ∃ t, exec (.transmitStart elapsed) s = .next t ∧ s.onlyChanges t [.ctb])

/-- An offered frame that is no second MARK enters with the next entry order behind every entry of its class while
the queue has room; into a full queue it enters by displacing the newest entry of the greatest class, when that is
greater than its own, and is lost otherwise, with TX_DROP in both cases (R106). A MARK offered while the queue holds
one takes its place with its own mark instant, and sets MARK_REPLACED; no other entry moves (R107). -/
def Obligations.OfferedFramesEnterTheQueue : Prop :=
  (∀ (l : Lnk) (x : TxItem), l.ordered →
     let e : TxEntry := { order := l.nextOrder, item := x }
     let t := l.offer x
     (e.isMark = true → ∀ y ∈ l.queue, y.isMark = false) →
     (l.queue.length < 8 →
         t.queue = l.queue.filter (fun y => y.cls ≤ e.cls) ++ e :: l.queue.filter (fun y => ¬ y.cls ≤ e.cls)
           ∧ t.txDrop = l.txDrop ∧ t.markReplaced = l.markReplaced)
       ∧ (l.queue.length = 8 → (∃ y ∈ l.queue, e.cls < y.cls) →
           e ∈ t.queue ∧ t.queue.length = 8 ∧ t.txDrop = true
             ∧ ∃ z ∈ l.queue, z ∉ t.queue ∧ (∀ y ∈ l.queue, y.cls ≤ z.cls)
               ∧ (∀ y ∈ l.queue, y.cls = z.cls → y.order ≤ z.order) ∧ ∀ y ∈ l.queue, y ≠ z → y ∈ t.queue)
       ∧ (l.queue.length = 8 → (∀ y ∈ l.queue, y.cls ≤ e.cls) → t.queue = l.queue ∧ t.txDrop = true))
    ∧ (∀ (l : Lnk) (pre post : List TxEntry) (old : TxEntry) (i j : Tick), l.queue = pre ++ old :: post →
         old.item = .mark i → (∀ e ∈ pre ++ post, e.isMark = false) →
         (l.offer (.mark j)).queue = pre ++ { order := l.nextOrder, item := .mark j } :: post
           ∧ (l.offer (.mark j)).markReplaced = true ∧ (l.offer (.mark j)).txDrop = l.txDrop
           ∧ (l.offer (.mark j)).shifter = l.shifter)

/-- ARBITRATION_LOSS and COLLISION return the frame in the shifter to the queue before every entry of its class,
keeping its entry order, while the queue has room; into a full queue it displaces the last entry when that is of a
greater class, and is lost otherwise, with TX_DROP; a MARK is discarded with MARK_REPLACED when a newer one waits; a
frame marked for removal is discarded. A collision is counted, up to 255, and an arbitration loss is not (R97, R98,
R108). A request to remove frames takes those of its content out of the queue, leaves the order of the rest, and
marks one in the shifter for discard; it does nothing else (R109). -/
def Obligations.AbortedFramesReturnToTheQueue : Prop :=
  (∀ (s : State) (x : Shifter), s.ready → s.lnk.shifter = some x →
     ∃ t u, exec .arbitrationLoss s = .next t ∧ exec .collision s = .next u
       ∧ t.lnk.shifter = none ∧ u.lnk.shifter = none ∧ u.lnk.queue = t.lnk.queue
       ∧ t.lnk.collisions = s.lnk.collisions ∧ u.lnk.collisions = min 255 (s.lnk.collisions + 1)
       ∧ u.lnk.ownAborted = true ∧ s.onlyChanges t [.lnk] ∧ s.onlyChanges u [.lnk]
       ∧ (x.entry.isMark = true → (∃ e ∈ s.lnk.queue, e.isMark = true) →
           t.lnk.queue = s.lnk.queue ∧ t.lnk.markReplaced = true)
       ∧ (x.entry.isMark = false → x.discard = true → t.lnk.queue = s.lnk.queue)
       ∧ (x.discard = false → (x.entry.isMark = false ∨ ∀ e ∈ s.lnk.queue, e.isMark = false) →
           s.lnk.ordered → s.lnk.queue.length < 8 →
           t.lnk.queue = s.lnk.queue.filter (fun e => e.cls < x.entry.cls)
             ++ x.entry :: s.lnk.queue.filter (fun e => ¬ e.cls < x.entry.cls)
             ∧ t.lnk.txDrop = s.lnk.txDrop)
       ∧ (x.discard = false → (x.entry.isMark = false ∨ ∀ e ∈ s.lnk.queue, e.isMark = false) →
           s.lnk.ordered → s.lnk.queue.length = 8 → t.lnk.txDrop = true
             ∧ ((∃ e ∈ s.lnk.queue, x.entry.cls < e.cls) →
                 t.lnk.queue = s.lnk.queue.dropLast.filter (fun e => e.cls < x.entry.cls)
                   ++ x.entry :: s.lnk.queue.dropLast.filter (fun e => ¬ e.cls < x.entry.cls))
             ∧ ((∀ e ∈ s.lnk.queue, e.cls ≤ x.entry.cls) → t.lnk.queue = s.lnk.queue)))
    ∧ (∀ (l : Lnk) (p : Payload → Bool),
         let t := l.remove p
         t.queue.Sublist l.queue ∧ (∀ e, e ∈ t.queue ↔ e ∈ l.queue ∧ ∀ a c, e.item = .frame a c → p c = false)
           ∧ (l.shifter = none → t = { l with queue := t.queue })
           ∧ ∀ x, l.shifter = some x →
               t = { l with queue := t.queue, shifter := some { x with discard := x.discard || p x.payload } })

/-! ### The requests -/

/-- An accepted SETUP, with SEQ IDLE, the output DARK and the latch clear: the seven values are stored together,
each clamped to its range; F becomes the increment of the frequency and C is clamped to ±(F >> 10), and nothing else
of the timebase changes; the current limit in force becomes the new default limit; and nothing else changes but the
answer, CLAMPED when a value was out of its range and OK otherwise (R10, R17, R34, R148, R161, R162). A SETUP is
REFUSED unless SEQ is IDLE, the output DARK and the latch clear, and otherwise RANGE when the policy code names
none; nothing but the answer follows (R161). -/
def Obligations.SetupIsDecidedAndStored : Prop :=
  (∀ (s : State) (req : Requester) (v : RawSetup) (policy : TripPolicy), s.hearing → s.seq.state = .idle →
     s.syn.out = .dark → s.stc.energized = false → nameOf tripPolicies v.policy = some policy →
     ∃ t f code, exec (.setup req v) s = .next t
       ∧ t.stc = { s.stc with setup :=
           { pNom := max 1 (min 32767 v.pNom.toNat), clip := max 1 (min 32767 v.clip.toNat)
             limit := max 1 (min 32767 v.limit.toNat), dSafe := max 64 (min 4096 v.dSafe.toNat)
             foldStep := max 1 (min 64 v.foldStep.toNat), policy := policy, frequency := f } }
       ∧ f = max 4000 (min 7000 v.frequency.toNat)
       ∧ t.ctb = { s.ctb with
           f := incrementOf f
           c := (let bound : Int := (incrementOf f >>> 10 : Nat)
                 if s.ctb.c > bound then bound else if s.ctb.c < -bound then -bound else s.ctb.c) }
       ∧ t.ftu = { s.ftu with limit := max 1 (min 32767 v.limit.toNat) }
       ∧ s.lnk.frameEnded.offersNamed t.lnk (answerNames req .setup (v.pNom.extractLsb' 8 8) code)
       ∧ code = (if 1 ≤ v.pNom.toNat ∧ v.pNom.toNat ≤ 32767 ∧ 1 ≤ v.clip.toNat ∧ v.clip.toNat ≤ 32767
                   ∧ 1 ≤ v.limit.toNat ∧ v.limit.toNat ≤ 32767 ∧ 64 ≤ v.dSafe.toNat ∧ v.dSafe.toNat ≤ 4096
                   ∧ 1 ≤ v.foldStep.toNat ∧ v.foldStep.toNat ≤ 64 ∧ 4000 ≤ v.frequency.toNat
                   ∧ v.frequency.toNat ≤ 7000 then AnswerCode.ok else AnswerCode.clamped)
       ∧ s.onlyChanges t [.stc, .ctb, .ftu, .lnk])
    ∧ (∀ (s : State) (req : Requester) (v : RawSetup), s.hearing →
         ((s.seq.state ≠ .idle ∨ s.syn.out ≠ .dark ∨ s.stc.energized = true) →
             ∃ t, exec (.setup req v) s = .next t ∧ s.onlyChanges t [.lnk]
               ∧ s.lnk.frameEnded.offersNamed t.lnk (answerNames req .setup (v.pNom.extractLsb' 8 8) .refused))
           ∧ (s.seq.state = .idle → s.syn.out = .dark → s.stc.energized = false → 2 < v.policy.toNat →
             ∃ t, exec (.setup req v) s = .next t ∧ s.onlyChanges t [.lnk]
               ∧ s.lnk.frameEnded.offersNamed t.lnk (answerNames req .setup (v.pNom.extractLsb' 8 8) .range)))

/-- A STEP_WRITE to the current slot in a state that holds one is BUSY, and one whose content R61 refuses is RANGE,
and neither changes anything but the answer; every other write replaces the slot's whole record and leaves every
other slot: a NORMAL record by the record with every part as sent or clamped to its range, an absent `duration` and
`await` as R53 and R54 say, and a loop marker by its core fields alone (R52–R55, R60–R62). It is answered CLAMPED
when a value lay outside its range and OK otherwise (R62); that a value of a discarded part of a loop marker counts
is the model's reading (notes/assumptions/17.md). -/
def Obligations.StepWriteStoresARecordInRange : Prop :=
  (∀ (s : State) (req : Requester) (slot : Slot) (raw : RawRecord), s.hearing →
     let held := s.seq.pointer = slot ∧ (s.seq.state = .armed ∨ s.seq.state = .gathering
       ∨ s.seq.state = .active ∨ s.seq.state = .frozen ∨ s.seq.state = .held)
     (held → ∃ t, exec (.stepWrite req slot raw) s = .next t ∧ s.onlyChanges t [.lnk]
         ∧ s.lnk.frameEnded.offersNamed t.lnk (answerNames req .stepWrite slot .busy))
       ∧ (¬ held → recordRefused s.own s.count raw →
           ∃ t, exec (.stepWrite req slot raw) s = .next t ∧ s.onlyChanges t [.lnk]
             ∧ s.lnk.frameEnded.offersNamed t.lnk (answerNames req .stepWrite slot .range))
       ∧ (¬ held → ¬ recordRefused s.own s.count raw →
           ∃ t code, exec (.stepWrite req slot raw) s = .next t
             ∧ (raw.kind = 0 → t.pls.slot slot = storedRecord raw)
             ∧ (raw.kind = 1 → t.pls.slot slot = { StepRecord.empty with
                 live := raw.live, wrap := raw.wrap, kind := .loopBegin, loopCount := raw.loopCount })
             ∧ (raw.kind = 2 → t.pls.slot slot = { StepRecord.empty with
                 live := raw.live, wrap := raw.wrap, kind := .loopEnd })
             ∧ (∀ i, i ≠ slot → t.pls.slot i = s.pls.slot i) ∧ t.pls.profiles = s.pls.profiles
             ∧ s.onlyChanges t [.pls, .lnk]
             ∧ (recordOutOfRange raw → code = .clamped) ∧ (¬ recordOutOfRange raw → code = .ok)
             ∧ s.lnk.frameEnded.offersNamed t.lnk (answerNames req .stepWrite slot code)))
    ∧ (∀ (own : Station) (count : Nat) (raw : RawRecord),
         (storeRecord own count raw = none ↔ recordRefused own count raw)
           ∧ ∀ r clamped, storeRecord own count raw = some (r, clamped) →
               r.fits ∧ r.outcome = none ∧ (clamped = true ↔ recordOutOfRange raw))

/-- A PROFILE_WRITE is RANGE for an index above 7 or more than 12 entries; otherwise it is OK or CLAMPED, and its
entries, clamped, go to the pending copy when one is held for the index or the profile is in force, and into the
profile at once otherwise (R28, R64, R65); that the new copy takes the place of one held for another index is the
model's choice (notes/assumptions/34.md). -/
def Obligations.ProfileWriteIsPlaced : Prop :=
  ∀ (s : State) (req : Requester) (index count : Byte) (entries : List ProfileEntry) (i : ProfileIndex),
    s.hearing →
    ((7 < index.toNat ∨ 12 < count.toNat) →
        ∃ t, exec (.profileWrite req index count entries) s = .next t ∧ s.onlyChanges t [.lnk]
          ∧ s.lnk.frameEnded.offersNamed t.lnk (answerNames req .profileWrite index .range))
      ∧ (index.toNat = i.toNat → count.toNat ≤ 12 → entries.length = count.toNat →
          ∃ t l code, exec (.profileWrite req index count entries) s = .next t
            ∧ l = entries.map (fun e =>
                { order := if e.order.toNat < 2 then 2 else if 50 < e.order.toNat then 50 else e.order
                  amplitude := if 400 < e.amplitude.toNat then 400 else e.amplitude, phase := e.phase })
            ∧ (code = if l = entries then .ok else .clamped)
            ∧ s.lnk.frameEnded.offersNamed t.lnk (answerNames req .profileWrite index code)
            ∧ ((s.syn.profile = some i ∨ ∃ old, s.syn.pendingCopy = some (i, old)) →
                t.syn = { s.syn with pendingCopy := some (i, l) } ∧ s.onlyChanges t [.syn, .lnk])
            ∧ ((s.syn.profile ≠ some i ∧ ∀ old, s.syn.pendingCopy ≠ some (i, old)) →
                t.pls.profile i = l ∧ (∀ j, j ≠ i → t.pls.profile j = s.pls.profile j)
                  ∧ t.pls.ring = s.pls.ring ∧ s.onlyChanges t [.pls, .lnk]))

/-- STEP_READ is answered in every state by a STEP_COPY of the slot as stored, and QUERY by a STATUS with cause
QUERY, each to the requesting node; neither changes any block but LNK, and sent to ALL neither has any effect but
the end of its frame (R66, R103, R104). The STATUS of a QUERY, and every STATUS offered to ALL, carries the state
summary as it stands, with every part of it from the block that the table names (R113). A request that cannot be
read reaches no block: it is answered RANGE, or ignored when sent to ALL (R103). -/
def Obligations.ReadsAndUnreadableRequestsChangeNothing : Prop :=
  (∀ (s : State) (req : Requester) (slot : Slot), s.hearing →
     (req.toAll = false →
         exec (.stepRead req slot) s
             = .next (s.setLnk (s.lnk.frameEnded.offer (.frame req.node (.stepCopy slot (s.pls.slot slot)))))
           ∧ ∃ y, s.reports .query y
               ∧ exec (.query req) s
                 = .next (s.setLnk (s.lnk.frameEnded.offer (.frame req.node (.status y)))))
       ∧ (req.toAll = true →
           exec (.stepRead req slot) s = .next (s.setLnk s.lnk.frameEnded)
             ∧ exec (.query req) s = .next (s.setLnk s.lnk.frameEnded)))
    ∧ (∀ (s : State) (req : Requester) (kind : RequestKind) (first : Byte), s.hearing →
         ∃ t, exec (.unreadableRequest req kind first) s = .next t ∧ s.onlyChanges t [.lnk]
           ∧ s.lnk.frameEnded.offersNamed t.lnk (answerNames req kind first .range))
    ∧ (∀ (s : State) (cause : StatusCause),
         ∃ y, s.reports cause y ∧ s.offerStatus cause = s.setLnk (s.lnk.offer (.frame 15 (.status y))))

/-- A RUN is BUSY while SEQ holds a slot, REFUSED in TRIPPED and FAULTED, and REFUSED in IDLE and SUSPENDED while
the output is FALLING, an expected peer is not PRESENT or reported TRIPPED or FAULTED, or the lock is not LOCKED
(nor ALONE in a station count of 1); nothing but the answer follows (R85). An accepted RUN: the start slot, if
named, becomes pointer and ring start and closes any loop; a DARK output becomes LIVE with L = 0 and no ramp, a LIVE
one stays as it is; the latch is set; the answer OK, STATUS RUN in the state the RUN was taken in, and then the
frames of the taking are offered. With a live NORMAL step at the pointer that awaits nothing and is not joint, SEQ
is ARMED in it; with a dead slot there it is IDLE, the output LIVE (R33, R69, R70, R71, R85, R163). -/
def Obligations.RunIsDecidedAndTakesAStep : Prop :=
  (∀ (s : State) (req : Requester) (start : Option Slot), s.hearing →
     let first : Byte := start.getD 0
     (holdsSlot s.seq.state = true →
         ∃ t, exec (.run req start) s = .next t ∧ s.onlyChanges t [.lnk]
           ∧ s.lnk.frameEnded.offersNamed t.lnk (answerNames req .run first .busy))
       ∧ (holdsSlot s.seq.state = false →
           (s.seq.state = .tripped ∨ s.seq.state = .faulted ∨ s.syn.out = .falling
             ∨ (∃ n : Station, n.toNat < s.count ∧ n ≠ s.own ∧ ((s.ptb.peer n).state ≠ .present
                 ∨ (s.ptb.peer n).reported = .tripped ∨ (s.ptb.peer n).reported = .faulted))
             ∨ (s.lck.state ≠ .locked ∧ ¬ (s.count = 1 ∧ s.lck.state = .alone))) →
           ∃ t, exec (.run req start) s = .next t ∧ s.onlyChanges t [.lnk]
             ∧ s.lnk.frameEnded.offersNamed t.lnk (answerNames req .run first .refused)))
    ∧ (∀ (s : State) (req : Requester) (start : Option Slot) (n : StepRecord), s.hearing →
         (s.seq.state = .idle ∨ s.seq.state = .suspended) → s.syn.out ≠ .falling →
         (∀ m : Station, m.toNat < s.count → m ≠ s.own → (s.ptb.peer m).state = .present
           ∧ (s.ptb.peer m).reported ≠ .tripped ∧ (s.ptb.peer m).reported ≠ .faulted) →
         (s.lck.state = .locked ∨ (s.count = 1 ∧ s.lck.state = .alone)) →
         s.pls.slot (start.getD s.seq.pointer) = n →
         (n.live = false ∨ (n.kind = .normal ∧ n.awaited = .none ∧ n.joint = none)) →
         ∃ t, exec (.run req start) s = .next t
           ∧ t.stc = { s.stc with energized := true } ∧ t.syn.out = .live
           ∧ (s.syn.out = .dark → t.syn.level = 0 ∧ t.syn.ramp = none)
           ∧ (s.syn.out = .live → t.syn = s.syn)
           ∧ t.seq.pointer = start.getD s.seq.pointer ∧ t.seq.ringStart = start.getD s.seq.ringStart
           ∧ (n.live = true → t.seq.state = .armed ∧ t.seq.image = some n
               ∧ (start = none → t.seq.loop = s.seq.loop) ∧ (start ≠ none → t.seq.loop = none))
           ∧ (n.live = false → t.seq.state = .idle ∧ t.seq.image = none ∧ t.seq.loop = none)
           ∧ s.lnk.frameEnded.offersNamed t.lnk
               (answerNames req .run (start.getD 0) .ok ++ [.status .run s.seq.state]
                 ++ [if n.live then .status .taken .armed else .status .dry .idle])
           ∧ s.onlyChanges t [.stc, .syn, .seq, .lnk])

/-- The energized-since-start latch, once set, stays set until the end of a start sequence, and nothing but an
accepted RUN sets it: one that a running station hears, between steps, with the output not FALLING, every expected
peer PRESENT and neither TRIPPED nor FAULTED, and the lock as R85 asks (R85, R163). What is due is carried out
before the RUN (notes/assumptions/3.md). -/
def Obligations.LatchStandsUntilTheNextStart : Prop :=
  ∀ (c : Instr) (s t : State), exec c s = .next t →
    (s.stc.energized = true → (∀ straps, c ≠ .oscillatorCountEnd straps) → t.stc.energized = true)
      ∧ (s.stc.energized = false → t.stc.energized = true →
          ∃ req start, c = .run req start ∧ s.running = true
            ∧ (let u := s.settle
               u.lnk.assembling = true ∧ (u.seq.state = .idle ∨ u.seq.state = .suspended) ∧ u.syn.out ≠ .falling
                 ∧ (∀ m : Station, m.toNat < u.count → m ≠ u.own → (u.ptb.peer m).state = .present
                     ∧ (u.ptb.peer m).reported ≠ .tripped ∧ (u.ptb.peer m).reported ≠ .faulted)
                 ∧ (u.lck.state = .locked ∨ (u.count = 1 ∧ u.lck.state = .alone))))

/-- A SUSPEND is latched in ACTIVE and FROZEN; taken at once in ARMED, with the pointer kept and no write-back, and
in HELD, with the pointer moved on and any latch cleared; it is BUSY in GATHERING and REFUSED in the other states. A
loop and the output stay as they are (R86). A RELEASE in any state but HELD is NOT_HELD and has no effect. In HELD
it offers STATUS RELEASE and moves on: to SUSPENDED at the next slot with the latch cleared when a SUSPEND is
latched, and otherwise to a taking at the next slot, here of a dead slot (IDLE) or of a plain NORMAL step (ARMED)
(R84). The answer comes before the frames of the effect: notes/assumptions/16.md. -/
def Obligations.SuspendAndReleaseByState : Prop :=
  (∀ (s : State) (req : Requester), s.hearing →
     ∃ t code names, exec (.suspend req) s = .next t ∧ s.onlyChanges t [.seq, .lnk]
       ∧ s.lnk.frameEnded.offersNamed t.lnk (answerNames req .suspend 0 code ++ names)
       ∧ (s.seq.state = .active ∨ s.seq.state = .frozen →
           code = .ok ∧ names = [] ∧ t.seq = { s.seq with suspendLatch := true })
       ∧ (s.seq.state = .armed →
           code = .ok ∧ names = [.status .suspend .suspended]
             ∧ t.seq = { s.seq with state := .suspended, image := none, suspendLatch := false })
       ∧ (∀ r, s.seq.state = .held → s.seq.image = some r →
           code = .ok ∧ names = [.status .suspend .suspended]
             ∧ t.seq = { s.seq with state := .suspended, image := none, suspendLatch := false
                                    pointer := if r.wrap then s.seq.ringStart else s.seq.pointer + 1 })
       ∧ (s.seq.state = .gathering → code = .busy ∧ names = [] ∧ t.seq = s.seq)
       ∧ (s.seq.state = .idle ∨ s.seq.state = .suspended ∨ s.seq.state = .tripped ∨ s.seq.state = .faulted →
           code = .refused ∧ names = [] ∧ t.seq = s.seq))
    ∧ (∀ (s : State) (req : Requester), s.hearing →
         (s.seq.state ≠ .held →
             ∃ t, exec (.release req) s = .next t ∧ s.onlyChanges t [.lnk]
               ∧ s.lnk.frameEnded.offersNamed t.lnk (answerNames req .release 0 .notHeld))
           ∧ ∀ (r n : StepRecord) (next : Slot), s.seq.state = .held → s.seq.image = some r →
               next = (if r.wrap then s.seq.ringStart else s.seq.pointer + 1) → s.pls.slot next = n →
               (n.live = false ∨ (n.kind = .normal ∧ n.awaited = .none ∧ n.joint = none)) →
               ∃ t last, exec (.release req) s = .next t ∧ s.onlyChanges t [.seq, .lnk] ∧ t.seq.pointer = next
                 ∧ s.lnk.frameEnded.offersNamed t.lnk
                     (answerNames req .release 0 .ok ++ [.status .release .held, last])
                 ∧ (s.seq.suspendLatch = true →
                     t.seq.state = .suspended ∧ t.seq.suspendLatch = false ∧ t.seq.image = none
                       ∧ t.seq.loop = s.seq.loop ∧ last = .status .suspend .suspended)
                 ∧ (s.seq.suspendLatch = false → n.live = true →
                     t.seq.state = .armed ∧ t.seq.image = some n ∧ t.seq.loop = s.seq.loop
                       ∧ last = .status .taken .armed)
                 ∧ (s.seq.suspendLatch = false → n.live = false →
                     t.seq.state = .idle ∧ t.seq.image = none ∧ t.seq.loop = none ∧ last = .status .dry .idle))

/-- An ABORT of a step in effect: it is written back ABORTED with `live` no, the pointer moves on, the loop, the
latch and the image are cleared, the LIVE output falls with every overlay OFF, SEQ is IDLE, and the answer OK, any
RESULT and STATUS ABORT are offered (R87). An ABORT that ends no step in effect: REFUSED in TRIPPED and FAULTED, OK
without effect in IDLE with the output not LIVE; from ARMED, SUSPENDED and IDLE with the output LIVE the pointer is
kept, from HELD it moves on, and nothing is written back; from GATHERING it is kept, and JNT removes its JOIN and
offers WITHDRAW with ABORTED before STATUS ABORT, its gate IDLE (R87, R137). That the answer comes before the frames
of the effect: notes/assumptions/16.md. -/
def Obligations.AbortByState : Prop :=
  (∀ (s : State) (req : Requester) (r : StepRecord), s.hearing → s.seq.image = some r →
     (s.seq.state = .active ∨ s.seq.state = .frozen) → s.syn.out = .live →
     ∃ t, exec (.abort req) s = .next t
       ∧ t.pls = s.pls.setSlot s.seq.pointer
           ((s.pls.slot s.seq.pointer).written false .aborted
             { cycles := s.seq.tally.cycles, lrms := s.seq.tally.lrms, limited := s.syn.limitedSamples
               folded := s.ftu.foldedCycles })
       ∧ t.seq.state = .idle ∧ t.seq.image = none ∧ t.seq.loop = none ∧ t.seq.suspendLatch = false
       ∧ t.seq.pointer = (if r.wrap then s.seq.ringStart else s.seq.pointer + 1)
       ∧ t.seq.ringStart = s.seq.ringStart ∧ t.seq.out0 = s.seq.out0 ∧ t.seq.out1 = s.seq.out1
       ∧ s.fallsTo t
       ∧ s.lnk.frameEnded.offersNamed t.lnk
           (answerNames req .abort 0 .ok
             ++ (if r.notify then [.result s.seq.pointer false .aborted] else [])
             ++ [.status .abort .idle])
       ∧ s.onlyChanges t [.pls, .seq, .syn, .ovl, .ctb, .lnk])
    ∧ (∀ (s : State) (req : Requester), s.hearing →
         ((s.seq.state = .tripped ∨ s.seq.state = .faulted) →
             ∃ t, exec (.abort req) s = .next t ∧ s.onlyChanges t [.lnk]
               ∧ s.lnk.frameEnded.offersNamed t.lnk (answerNames req .abort 0 .refused))
           ∧ (s.seq.state = .idle → s.syn.out ≠ .live →
             ∃ t, exec (.abort req) s = .next t ∧ s.onlyChanges t [.lnk]
               ∧ s.lnk.frameEnded.offersNamed t.lnk (answerNames req .abort 0 .ok))
           ∧ (∀ next, s.syn.out = .live →
             ((s.seq.state = .armed ∨ s.seq.state = .suspended ∨ s.seq.state = .idle) ∧ next = s.seq.pointer)
               ∨ (∃ r, s.seq.state = .held ∧ s.seq.image = some r
                   ∧ next = if r.wrap then s.seq.ringStart else s.seq.pointer + 1) →
             ∃ t, exec (.abort req) s = .next t ∧ t.seq.state = .idle ∧ t.seq.pointer = next
               ∧ t.seq.image = none ∧ t.seq.loop = none ∧ t.seq.suspendLatch = false ∧ s.fallsTo t
               ∧ s.lnk.frameEnded.offersNamed t.lnk (answerNames req .abort 0 .ok ++ [.status .abort .idle])
               ∧ s.onlyChanges t [.seq, .syn, .ovl, .ctb, .lnk])
           ∧ (s.seq.state = .gathering → s.jnt.gate ≠ .idle →
             ∃ t answered, exec (.abort req) s = .next t ∧ t.seq.state = .idle ∧ t.seq.pointer = s.seq.pointer
               ∧ t.seq.image = none ∧ t.seq.loop = none ∧ t.seq.suspendLatch = false ∧ s.fallsTo t
               ∧ t.jnt = { s.jnt with gate := .idle }
               ∧ s.lnk.frameEnded.offersNamed answered (answerNames req .abort 0 .ok)
               ∧ (answered.remove (Payload.isJoinFor s.jnt.tag)).offersNamed t.lnk
                   [.withdraw s.jnt.tag .aborted, .status .abort .idle]
               ∧ s.onlyChanges t [.seq, .syn, .ovl, .ctb, .jnt, .lnk]))

/-- A CLEAR of a TRIPPED or FAULTED station with the output DARK, not a strap fault, is answered OK: SEQ is IDLE
with fault cause none and no loop, Φ is 1,024, the trip cause is none, the streak 0, and every sticky flag, the
link's four among them, is cleared before STATUS CLEAR is offered; pointer, ring start, plan and lock stand. While
FALLING, or in a strap fault, it is REFUSED; in every other state it is answered OK and clears the sticky flags
alone (R88, R114, R127, R157). That the answer comes first: notes/assumptions/16.md. -/
def Obligations.ClearRestoresTheStation : Prop :=
  ∀ (s : State) (req : Requester), s.hearing →
    let stopped := s.seq.state = .tripped ∨ s.seq.state = .faulted
    let strap := s.seq.state = .faulted ∧ s.seq.faultCause = .strap
    let cleared (l : Lnk) : Lnk :=
      { l with rxCheck := false, txDrop := false, markReplaced := false, markStale := false }
    ((stopped ∧ (s.syn.out ≠ .dark ∨ strap)) →
        ∃ t, exec (.clear req) s = .next t ∧ s.onlyChanges t [.lnk]
          ∧ s.lnk.frameEnded.offersNamed t.lnk (answerNames req .clear 0 .refused))
      ∧ ((stopped ∧ s.syn.out = .dark ∧ ¬ strap) →
        ∃ t answered, exec (.clear req) s = .next t
          ∧ t.seq = { s.seq with state := .idle, faultCause := .none, loop := none }
          ∧ t.ftu = { s.ftu with phi := 1024, tripCause := none, streak := 0, folded := false }
          ∧ t.syn = { s.syn with limited := false } ∧ t.lck = { s.lck with clampHit := false }
          ∧ s.lnk.frameEnded.offersNamed answered (answerNames req .clear 0 .ok)
          ∧ (cleared answered).offersNamed t.lnk [.status .clear .idle]
          ∧ s.onlyChanges t [.seq, .ftu, .syn, .lck, .lnk])
      ∧ (¬ stopped →
        ∃ t answered, exec (.clear req) s = .next t ∧ t.ftu = { s.ftu with folded := false }
          ∧ t.syn = { s.syn with limited := false } ∧ t.lck = { s.lck with clampHit := false }
          ∧ s.lnk.frameEnded.offersNamed answered (answerNames req .clear 0 .ok) ∧ t.lnk = cleared answered
          ∧ s.onlyChanges t [.ftu, .syn, .lck, .lnk])

/-! ### What every step keeps -/

/-- Every step keeps LNK's queue as R105 has it: at most 8 entries and one MARK, in order of class and, within a
class, of entry order. -/
def Obligations.TheQueueStaysInOrder : Prop :=
  ∀ s t : State, s.lnk.ordered → step s = .next t → t.lnk.ordered

/-- Every step keeps the stored records and profiles, the levels, the base increment and C within their ranges (R7,
R10, R11, R20, R58, R61, R62, R64). -/
def Obligations.LevelsAndIncrementsStayInRange : Prop :=
  ∀ s t : State, s.outputFits → step s = .next t → t.outputFits

/-- Every step keeps Φ within 64..1,024, the lock streak within 0..4 and 0 while ALONE, and LNK's counters within
0..255 (R98, R100, R123, R125, R149). Every step keeps the station's own peer record PRESENT with error 0, fresh, at
age 0, and keeps the records of numbers at or above the station count from being LOST or fresh (R117, R119,
R122). -/
def Obligations.ProtectionAndPeerRecordsStayInRange : Prop :=
  (∀ s t : State, s.foldFits → s.lockFits → s.lnk.countersFit → step s = .next t →
     t.foldFits ∧ t.lockFits ∧ t.lnk.countersFit)
    ∧ (∀ s t : State, s.ownRecordStands → s.strangersStand → step s = .next t →
         t.ownRecordStands ∧ t.strangersStand)

/-- Every step keeps the sequencer state, the output state, the step image, the gate and the overlays in the
relation the manual's tables give them (5.1, R49, R69, R75, R137); and every step keeps a station in reset or in its
start sequence quiet: the port at 0, the output DARK, the marker outputs low, nothing to send, nothing being
received, and no barrier (R115, R158). -/
def Obligations.StatesStayConsistent : Prop :=
  (∀ s t : State, s.consistent → step s = .next t → t.consistent)
    ∧ ∀ s t : State, s.quietInReset → step s = .next t → t.quietInReset

/-! ### The bytes on the line -/

/-- A request sent to the station, or to ALL, by a service node is heard as that request with every field as sent,
whenever its payload fits in 64 bytes (R96, R100, R101, R103, R116). -/
def Obligations.RequestsAreReadAsSent : Prop :=
  ∀ (own : Station) (i : Instr) (req : Requester) (kind : RequestKind) (payload : List Byte),
    i.wellFormed = true → requestPayload i = some (req, kind, payload) → payload.length ≤ 64 →
    readFrame own (requestFrame own req kind payload) = i

/-- A frame a station sends is heard by every station as the event of its kind, with its sender's number, and every
field that a station reads as sent; a STEP_COPY is of a record of at most four overlay entries, as every stored
record is (R61, R96, R100, R101, R102, R111, R116). -/
def Obligations.StationFramesAreReadAsSent : Prop :=
  ∀ (own sender : Station) (x : Shifter), x.payload.bytes.length ≤ 64 →
    (∀ slot r, x.payload = .stepCopy slot r → r.overlays.length ≤ 4) →
    readFrame own (x.bytes sender) = x.payload.heard sender

/-- The stored image that a STEP_COPY carries, written back by a STEP_WRITE at a station of the same number and
count, stores the same record without its outcome part, and clamps nothing, for every record that a STEP_WRITE has
stored (R61, R62, R66, R116). -/
def Obligations.StepCopiesWriteBackUnchanged : Prop :=
  ∀ (own : Station) (count : Nat) (raw : RawRecord) (r : StepRecord) (clamped : Bool)
    (o : Option StepOutcome),
    storeRecord own count raw = some (r, clamped) →
    storeRecord own count ({ r with outcome := o }).toRaw = some (r, false)
end

