-- ==== Sys2Proof/Laws/State.lean ====
section
/-! SUPPORT. One lemma for each field of the state under each named update, true by definition. -/

namespace Sys2Proof.Machine

variable (s : State)

@[simp] theorem State.setStc_stc (x : Stc) : (s.setStc x).stc = x := rfl
@[simp] theorem State.setStc_ctb (x : Stc) : (s.setStc x).ctb = s.ctb := rfl
@[simp] theorem State.setStc_syn (x : Stc) : (s.setStc x).syn = s.syn := rfl
@[simp] theorem State.setStc_ovl (x : Stc) : (s.setStc x).ovl = s.ovl := rfl
@[simp] theorem State.setStc_pls (x : Stc) : (s.setStc x).pls = s.pls := rfl
@[simp] theorem State.setStc_seq (x : Stc) : (s.setStc x).seq = s.seq := rfl
@[simp] theorem State.setStc_jnt (x : Stc) : (s.setStc x).jnt = s.jnt := rfl
@[simp] theorem State.setStc_lnk (x : Stc) : (s.setStc x).lnk = s.lnk := rfl
@[simp] theorem State.setStc_ptb (x : Stc) : (s.setStc x).ptb = s.ptb := rfl
@[simp] theorem State.setStc_lck (x : Stc) : (s.setStc x).lck = s.lck := rfl
@[simp] theorem State.setStc_fbm (x : Stc) : (s.setStc x).fbm = s.fbm := rfl
@[simp] theorem State.setStc_ftu (x : Stc) : (s.setStc x).ftu = s.ftu := rfl
@[simp] theorem State.setStc_freeCount (x : Stc) : (s.setStc x).freeCount = s.freeCount := rfl
@[simp] theorem State.setStc_pending (x : Stc) : (s.setStc x).pending = s.pending := rfl

@[simp] theorem State.setCtb_stc (x : Ctb) : (s.setCtb x).stc = s.stc := rfl
@[simp] theorem State.setCtb_ctb (x : Ctb) : (s.setCtb x).ctb = x := rfl
@[simp] theorem State.setCtb_syn (x : Ctb) : (s.setCtb x).syn = s.syn := rfl
@[simp] theorem State.setCtb_ovl (x : Ctb) : (s.setCtb x).ovl = s.ovl := rfl
@[simp] theorem State.setCtb_pls (x : Ctb) : (s.setCtb x).pls = s.pls := rfl
@[simp] theorem State.setCtb_seq (x : Ctb) : (s.setCtb x).seq = s.seq := rfl
@[simp] theorem State.setCtb_jnt (x : Ctb) : (s.setCtb x).jnt = s.jnt := rfl
@[simp] theorem State.setCtb_lnk (x : Ctb) : (s.setCtb x).lnk = s.lnk := rfl
@[simp] theorem State.setCtb_ptb (x : Ctb) : (s.setCtb x).ptb = s.ptb := rfl
@[simp] theorem State.setCtb_lck (x : Ctb) : (s.setCtb x).lck = s.lck := rfl
@[simp] theorem State.setCtb_fbm (x : Ctb) : (s.setCtb x).fbm = s.fbm := rfl
@[simp] theorem State.setCtb_ftu (x : Ctb) : (s.setCtb x).ftu = s.ftu := rfl
@[simp] theorem State.setCtb_freeCount (x : Ctb) : (s.setCtb x).freeCount = s.freeCount := rfl
@[simp] theorem State.setCtb_pending (x : Ctb) : (s.setCtb x).pending = s.pending := rfl

@[simp] theorem State.setSyn_stc (x : Syn) : (s.setSyn x).stc = s.stc := rfl
@[simp] theorem State.setSyn_ctb (x : Syn) : (s.setSyn x).ctb = s.ctb := rfl
@[simp] theorem State.setSyn_syn (x : Syn) : (s.setSyn x).syn = x := rfl
@[simp] theorem State.setSyn_ovl (x : Syn) : (s.setSyn x).ovl = s.ovl := rfl
@[simp] theorem State.setSyn_pls (x : Syn) : (s.setSyn x).pls = s.pls := rfl
@[simp] theorem State.setSyn_seq (x : Syn) : (s.setSyn x).seq = s.seq := rfl
@[simp] theorem State.setSyn_jnt (x : Syn) : (s.setSyn x).jnt = s.jnt := rfl
@[simp] theorem State.setSyn_lnk (x : Syn) : (s.setSyn x).lnk = s.lnk := rfl
@[simp] theorem State.setSyn_ptb (x : Syn) : (s.setSyn x).ptb = s.ptb := rfl
@[simp] theorem State.setSyn_lck (x : Syn) : (s.setSyn x).lck = s.lck := rfl
@[simp] theorem State.setSyn_fbm (x : Syn) : (s.setSyn x).fbm = s.fbm := rfl
@[simp] theorem State.setSyn_ftu (x : Syn) : (s.setSyn x).ftu = s.ftu := rfl
@[simp] theorem State.setSyn_freeCount (x : Syn) : (s.setSyn x).freeCount = s.freeCount := rfl
@[simp] theorem State.setSyn_pending (x : Syn) : (s.setSyn x).pending = s.pending := rfl

@[simp] theorem State.setOvl_stc (x : Ovl) : (s.setOvl x).stc = s.stc := rfl
@[simp] theorem State.setOvl_ctb (x : Ovl) : (s.setOvl x).ctb = s.ctb := rfl
@[simp] theorem State.setOvl_syn (x : Ovl) : (s.setOvl x).syn = s.syn := rfl
@[simp] theorem State.setOvl_ovl (x : Ovl) : (s.setOvl x).ovl = x := rfl
@[simp] theorem State.setOvl_pls (x : Ovl) : (s.setOvl x).pls = s.pls := rfl
@[simp] theorem State.setOvl_seq (x : Ovl) : (s.setOvl x).seq = s.seq := rfl
@[simp] theorem State.setOvl_jnt (x : Ovl) : (s.setOvl x).jnt = s.jnt := rfl
@[simp] theorem State.setOvl_lnk (x : Ovl) : (s.setOvl x).lnk = s.lnk := rfl
@[simp] theorem State.setOvl_ptb (x : Ovl) : (s.setOvl x).ptb = s.ptb := rfl
@[simp] theorem State.setOvl_lck (x : Ovl) : (s.setOvl x).lck = s.lck := rfl
@[simp] theorem State.setOvl_fbm (x : Ovl) : (s.setOvl x).fbm = s.fbm := rfl
@[simp] theorem State.setOvl_ftu (x : Ovl) : (s.setOvl x).ftu = s.ftu := rfl
@[simp] theorem State.setOvl_freeCount (x : Ovl) : (s.setOvl x).freeCount = s.freeCount := rfl
@[simp] theorem State.setOvl_pending (x : Ovl) : (s.setOvl x).pending = s.pending := rfl

@[simp] theorem State.setPls_stc (x : Pls) : (s.setPls x).stc = s.stc := rfl
@[simp] theorem State.setPls_ctb (x : Pls) : (s.setPls x).ctb = s.ctb := rfl
@[simp] theorem State.setPls_syn (x : Pls) : (s.setPls x).syn = s.syn := rfl
@[simp] theorem State.setPls_ovl (x : Pls) : (s.setPls x).ovl = s.ovl := rfl
@[simp] theorem State.setPls_pls (x : Pls) : (s.setPls x).pls = x := rfl
@[simp] theorem State.setPls_seq (x : Pls) : (s.setPls x).seq = s.seq := rfl
@[simp] theorem State.setPls_jnt (x : Pls) : (s.setPls x).jnt = s.jnt := rfl
@[simp] theorem State.setPls_lnk (x : Pls) : (s.setPls x).lnk = s.lnk := rfl
@[simp] theorem State.setPls_ptb (x : Pls) : (s.setPls x).ptb = s.ptb := rfl
@[simp] theorem State.setPls_lck (x : Pls) : (s.setPls x).lck = s.lck := rfl
@[simp] theorem State.setPls_fbm (x : Pls) : (s.setPls x).fbm = s.fbm := rfl
@[simp] theorem State.setPls_ftu (x : Pls) : (s.setPls x).ftu = s.ftu := rfl
@[simp] theorem State.setPls_freeCount (x : Pls) : (s.setPls x).freeCount = s.freeCount := rfl
@[simp] theorem State.setPls_pending (x : Pls) : (s.setPls x).pending = s.pending := rfl

@[simp] theorem State.setSeq_stc (x : Seq) : (s.setSeq x).stc = s.stc := rfl
@[simp] theorem State.setSeq_ctb (x : Seq) : (s.setSeq x).ctb = s.ctb := rfl
@[simp] theorem State.setSeq_syn (x : Seq) : (s.setSeq x).syn = s.syn := rfl
@[simp] theorem State.setSeq_ovl (x : Seq) : (s.setSeq x).ovl = s.ovl := rfl
@[simp] theorem State.setSeq_pls (x : Seq) : (s.setSeq x).pls = s.pls := rfl
@[simp] theorem State.setSeq_seq (x : Seq) : (s.setSeq x).seq = x := rfl
@[simp] theorem State.setSeq_jnt (x : Seq) : (s.setSeq x).jnt = s.jnt := rfl
@[simp] theorem State.setSeq_lnk (x : Seq) : (s.setSeq x).lnk = s.lnk := rfl
@[simp] theorem State.setSeq_ptb (x : Seq) : (s.setSeq x).ptb = s.ptb := rfl
@[simp] theorem State.setSeq_lck (x : Seq) : (s.setSeq x).lck = s.lck := rfl
@[simp] theorem State.setSeq_fbm (x : Seq) : (s.setSeq x).fbm = s.fbm := rfl
@[simp] theorem State.setSeq_ftu (x : Seq) : (s.setSeq x).ftu = s.ftu := rfl
@[simp] theorem State.setSeq_freeCount (x : Seq) : (s.setSeq x).freeCount = s.freeCount := rfl
@[simp] theorem State.setSeq_pending (x : Seq) : (s.setSeq x).pending = s.pending := rfl

@[simp] theorem State.setJnt_stc (x : Jnt) : (s.setJnt x).stc = s.stc := rfl
@[simp] theorem State.setJnt_ctb (x : Jnt) : (s.setJnt x).ctb = s.ctb := rfl
@[simp] theorem State.setJnt_syn (x : Jnt) : (s.setJnt x).syn = s.syn := rfl
@[simp] theorem State.setJnt_ovl (x : Jnt) : (s.setJnt x).ovl = s.ovl := rfl
@[simp] theorem State.setJnt_pls (x : Jnt) : (s.setJnt x).pls = s.pls := rfl
@[simp] theorem State.setJnt_seq (x : Jnt) : (s.setJnt x).seq = s.seq := rfl
@[simp] theorem State.setJnt_jnt (x : Jnt) : (s.setJnt x).jnt = x := rfl
@[simp] theorem State.setJnt_lnk (x : Jnt) : (s.setJnt x).lnk = s.lnk := rfl
@[simp] theorem State.setJnt_ptb (x : Jnt) : (s.setJnt x).ptb = s.ptb := rfl
@[simp] theorem State.setJnt_lck (x : Jnt) : (s.setJnt x).lck = s.lck := rfl
@[simp] theorem State.setJnt_fbm (x : Jnt) : (s.setJnt x).fbm = s.fbm := rfl
@[simp] theorem State.setJnt_ftu (x : Jnt) : (s.setJnt x).ftu = s.ftu := rfl
@[simp] theorem State.setJnt_freeCount (x : Jnt) : (s.setJnt x).freeCount = s.freeCount := rfl
@[simp] theorem State.setJnt_pending (x : Jnt) : (s.setJnt x).pending = s.pending := rfl

@[simp] theorem State.setLnk_stc (x : Lnk) : (s.setLnk x).stc = s.stc := rfl
@[simp] theorem State.setLnk_ctb (x : Lnk) : (s.setLnk x).ctb = s.ctb := rfl
@[simp] theorem State.setLnk_syn (x : Lnk) : (s.setLnk x).syn = s.syn := rfl
@[simp] theorem State.setLnk_ovl (x : Lnk) : (s.setLnk x).ovl = s.ovl := rfl
@[simp] theorem State.setLnk_pls (x : Lnk) : (s.setLnk x).pls = s.pls := rfl
@[simp] theorem State.setLnk_seq (x : Lnk) : (s.setLnk x).seq = s.seq := rfl
@[simp] theorem State.setLnk_jnt (x : Lnk) : (s.setLnk x).jnt = s.jnt := rfl
@[simp] theorem State.setLnk_lnk (x : Lnk) : (s.setLnk x).lnk = x := rfl
@[simp] theorem State.setLnk_ptb (x : Lnk) : (s.setLnk x).ptb = s.ptb := rfl
@[simp] theorem State.setLnk_lck (x : Lnk) : (s.setLnk x).lck = s.lck := rfl
@[simp] theorem State.setLnk_fbm (x : Lnk) : (s.setLnk x).fbm = s.fbm := rfl
@[simp] theorem State.setLnk_ftu (x : Lnk) : (s.setLnk x).ftu = s.ftu := rfl
@[simp] theorem State.setLnk_freeCount (x : Lnk) : (s.setLnk x).freeCount = s.freeCount := rfl
@[simp] theorem State.setLnk_pending (x : Lnk) : (s.setLnk x).pending = s.pending := rfl

@[simp] theorem State.setPtb_stc (x : Ptb) : (s.setPtb x).stc = s.stc := rfl
@[simp] theorem State.setPtb_ctb (x : Ptb) : (s.setPtb x).ctb = s.ctb := rfl
@[simp] theorem State.setPtb_syn (x : Ptb) : (s.setPtb x).syn = s.syn := rfl
@[simp] theorem State.setPtb_ovl (x : Ptb) : (s.setPtb x).ovl = s.ovl := rfl
@[simp] theorem State.setPtb_pls (x : Ptb) : (s.setPtb x).pls = s.pls := rfl
@[simp] theorem State.setPtb_seq (x : Ptb) : (s.setPtb x).seq = s.seq := rfl
@[simp] theorem State.setPtb_jnt (x : Ptb) : (s.setPtb x).jnt = s.jnt := rfl
@[simp] theorem State.setPtb_lnk (x : Ptb) : (s.setPtb x).lnk = s.lnk := rfl
@[simp] theorem State.setPtb_ptb (x : Ptb) : (s.setPtb x).ptb = x := rfl
@[simp] theorem State.setPtb_lck (x : Ptb) : (s.setPtb x).lck = s.lck := rfl
@[simp] theorem State.setPtb_fbm (x : Ptb) : (s.setPtb x).fbm = s.fbm := rfl
@[simp] theorem State.setPtb_ftu (x : Ptb) : (s.setPtb x).ftu = s.ftu := rfl
@[simp] theorem State.setPtb_freeCount (x : Ptb) : (s.setPtb x).freeCount = s.freeCount := rfl
@[simp] theorem State.setPtb_pending (x : Ptb) : (s.setPtb x).pending = s.pending := rfl

@[simp] theorem State.setLck_stc (x : Lck) : (s.setLck x).stc = s.stc := rfl
@[simp] theorem State.setLck_ctb (x : Lck) : (s.setLck x).ctb = s.ctb := rfl
@[simp] theorem State.setLck_syn (x : Lck) : (s.setLck x).syn = s.syn := rfl
@[simp] theorem State.setLck_ovl (x : Lck) : (s.setLck x).ovl = s.ovl := rfl
@[simp] theorem State.setLck_pls (x : Lck) : (s.setLck x).pls = s.pls := rfl
@[simp] theorem State.setLck_seq (x : Lck) : (s.setLck x).seq = s.seq := rfl
@[simp] theorem State.setLck_jnt (x : Lck) : (s.setLck x).jnt = s.jnt := rfl
@[simp] theorem State.setLck_lnk (x : Lck) : (s.setLck x).lnk = s.lnk := rfl
@[simp] theorem State.setLck_ptb (x : Lck) : (s.setLck x).ptb = s.ptb := rfl
@[simp] theorem State.setLck_lck (x : Lck) : (s.setLck x).lck = x := rfl
@[simp] theorem State.setLck_fbm (x : Lck) : (s.setLck x).fbm = s.fbm := rfl
@[simp] theorem State.setLck_ftu (x : Lck) : (s.setLck x).ftu = s.ftu := rfl
@[simp] theorem State.setLck_freeCount (x : Lck) : (s.setLck x).freeCount = s.freeCount := rfl
@[simp] theorem State.setLck_pending (x : Lck) : (s.setLck x).pending = s.pending := rfl

@[simp] theorem State.setFbm_stc (x : Fbm) : (s.setFbm x).stc = s.stc := rfl
@[simp] theorem State.setFbm_ctb (x : Fbm) : (s.setFbm x).ctb = s.ctb := rfl
@[simp] theorem State.setFbm_syn (x : Fbm) : (s.setFbm x).syn = s.syn := rfl
@[simp] theorem State.setFbm_ovl (x : Fbm) : (s.setFbm x).ovl = s.ovl := rfl
@[simp] theorem State.setFbm_pls (x : Fbm) : (s.setFbm x).pls = s.pls := rfl
@[simp] theorem State.setFbm_seq (x : Fbm) : (s.setFbm x).seq = s.seq := rfl
@[simp] theorem State.setFbm_jnt (x : Fbm) : (s.setFbm x).jnt = s.jnt := rfl
@[simp] theorem State.setFbm_lnk (x : Fbm) : (s.setFbm x).lnk = s.lnk := rfl
@[simp] theorem State.setFbm_ptb (x : Fbm) : (s.setFbm x).ptb = s.ptb := rfl
@[simp] theorem State.setFbm_lck (x : Fbm) : (s.setFbm x).lck = s.lck := rfl
@[simp] theorem State.setFbm_fbm (x : Fbm) : (s.setFbm x).fbm = x := rfl
@[simp] theorem State.setFbm_ftu (x : Fbm) : (s.setFbm x).ftu = s.ftu := rfl
@[simp] theorem State.setFbm_freeCount (x : Fbm) : (s.setFbm x).freeCount = s.freeCount := rfl
@[simp] theorem State.setFbm_pending (x : Fbm) : (s.setFbm x).pending = s.pending := rfl

@[simp] theorem State.setFtu_stc (x : Ftu) : (s.setFtu x).stc = s.stc := rfl
@[simp] theorem State.setFtu_ctb (x : Ftu) : (s.setFtu x).ctb = s.ctb := rfl
@[simp] theorem State.setFtu_syn (x : Ftu) : (s.setFtu x).syn = s.syn := rfl
@[simp] theorem State.setFtu_ovl (x : Ftu) : (s.setFtu x).ovl = s.ovl := rfl
@[simp] theorem State.setFtu_pls (x : Ftu) : (s.setFtu x).pls = s.pls := rfl
@[simp] theorem State.setFtu_seq (x : Ftu) : (s.setFtu x).seq = s.seq := rfl
@[simp] theorem State.setFtu_jnt (x : Ftu) : (s.setFtu x).jnt = s.jnt := rfl
@[simp] theorem State.setFtu_lnk (x : Ftu) : (s.setFtu x).lnk = s.lnk := rfl
@[simp] theorem State.setFtu_ptb (x : Ftu) : (s.setFtu x).ptb = s.ptb := rfl
@[simp] theorem State.setFtu_lck (x : Ftu) : (s.setFtu x).lck = s.lck := rfl
@[simp] theorem State.setFtu_fbm (x : Ftu) : (s.setFtu x).fbm = s.fbm := rfl
@[simp] theorem State.setFtu_ftu (x : Ftu) : (s.setFtu x).ftu = x := rfl
@[simp] theorem State.setFtu_freeCount (x : Ftu) : (s.setFtu x).freeCount = s.freeCount := rfl
@[simp] theorem State.setFtu_pending (x : Ftu) : (s.setFtu x).pending = s.pending := rfl

@[simp] theorem State.setFreeCount_stc (x : Nat) : (s.setFreeCount x).stc = s.stc := rfl
@[simp] theorem State.setFreeCount_ctb (x : Nat) : (s.setFreeCount x).ctb = s.ctb := rfl
@[simp] theorem State.setFreeCount_syn (x : Nat) : (s.setFreeCount x).syn = s.syn := rfl
@[simp] theorem State.setFreeCount_ovl (x : Nat) : (s.setFreeCount x).ovl = s.ovl := rfl
@[simp] theorem State.setFreeCount_pls (x : Nat) : (s.setFreeCount x).pls = s.pls := rfl
@[simp] theorem State.setFreeCount_seq (x : Nat) : (s.setFreeCount x).seq = s.seq := rfl
@[simp] theorem State.setFreeCount_jnt (x : Nat) : (s.setFreeCount x).jnt = s.jnt := rfl
@[simp] theorem State.setFreeCount_lnk (x : Nat) : (s.setFreeCount x).lnk = s.lnk := rfl
@[simp] theorem State.setFreeCount_ptb (x : Nat) : (s.setFreeCount x).ptb = s.ptb := rfl
@[simp] theorem State.setFreeCount_lck (x : Nat) : (s.setFreeCount x).lck = s.lck := rfl
@[simp] theorem State.setFreeCount_fbm (x : Nat) : (s.setFreeCount x).fbm = s.fbm := rfl
@[simp] theorem State.setFreeCount_ftu (x : Nat) : (s.setFreeCount x).ftu = s.ftu := rfl
@[simp] theorem State.setFreeCount_freeCount (x : Nat) : (s.setFreeCount x).freeCount = x := rfl
@[simp] theorem State.setFreeCount_pending (x : Nat) : (s.setFreeCount x).pending = s.pending := rfl

@[simp] theorem State.setPending_stc (x : List Instr) : (s.setPending x).stc = s.stc := rfl
@[simp] theorem State.setPending_ctb (x : List Instr) : (s.setPending x).ctb = s.ctb := rfl
@[simp] theorem State.setPending_syn (x : List Instr) : (s.setPending x).syn = s.syn := rfl
@[simp] theorem State.setPending_ovl (x : List Instr) : (s.setPending x).ovl = s.ovl := rfl
@[simp] theorem State.setPending_pls (x : List Instr) : (s.setPending x).pls = s.pls := rfl
@[simp] theorem State.setPending_seq (x : List Instr) : (s.setPending x).seq = s.seq := rfl
@[simp] theorem State.setPending_jnt (x : List Instr) : (s.setPending x).jnt = s.jnt := rfl
@[simp] theorem State.setPending_lnk (x : List Instr) : (s.setPending x).lnk = s.lnk := rfl
@[simp] theorem State.setPending_ptb (x : List Instr) : (s.setPending x).ptb = s.ptb := rfl
@[simp] theorem State.setPending_lck (x : List Instr) : (s.setPending x).lck = s.lck := rfl
@[simp] theorem State.setPending_fbm (x : List Instr) : (s.setPending x).fbm = s.fbm := rfl
@[simp] theorem State.setPending_ftu (x : List Instr) : (s.setPending x).ftu = s.ftu := rfl
@[simp] theorem State.setPending_freeCount (x : List Instr) : (s.setPending x).freeCount = s.freeCount := rfl
@[simp] theorem State.setPending_pending (x : List Instr) : (s.setPending x).pending = x := rfl

/-- An update by the block that stands changes nothing. -/
@[simp] theorem State.setStc_self : s.setStc s.stc = s := rfl
/-- An update by the block that stands changes nothing. -/
@[simp] theorem State.setCtb_self : s.setCtb s.ctb = s := rfl
/-- An update by the block that stands changes nothing. -/
@[simp] theorem State.setSyn_self : s.setSyn s.syn = s := rfl
/-- An update by the block that stands changes nothing. -/
@[simp] theorem State.setOvl_self : s.setOvl s.ovl = s := rfl
/-- An update by the block that stands changes nothing. -/
@[simp] theorem State.setPls_self : s.setPls s.pls = s := rfl
/-- An update by the block that stands changes nothing. -/
@[simp] theorem State.setSeq_self : s.setSeq s.seq = s := rfl
/-- An update by the block that stands changes nothing. -/
@[simp] theorem State.setJnt_self : s.setJnt s.jnt = s := rfl
/-- An update by the block that stands changes nothing. -/
@[simp] theorem State.setLnk_self : s.setLnk s.lnk = s := rfl
/-- An update by the block that stands changes nothing. -/
@[simp] theorem State.setPtb_self : s.setPtb s.ptb = s := rfl
/-- An update by the block that stands changes nothing. -/
@[simp] theorem State.setLck_self : s.setLck s.lck = s := rfl
/-- An update by the block that stands changes nothing. -/
@[simp] theorem State.setFbm_self : s.setFbm s.fbm = s := rfl
/-- An update by the block that stands changes nothing. -/
@[simp] theorem State.setFtu_self : s.setFtu s.ftu = s := rfl
/-- An update by the block that stands changes nothing. -/
@[simp] theorem State.setFreeCount_self : s.setFreeCount s.freeCount = s := rfl
/-- An update by the block that stands changes nothing. -/
@[simp] theorem State.setPending_self : s.setPending s.pending = s := rfl

end Sys2Proof.Machine
end

