-- ==== Sys2Proof/Laws/Flags.lean ====
section
/-! SUPPORT. What offering a frame and clearing the sticky flags leave alone, field by field. -/

set_option Elab.async false

namespace Sys2Proof.Machine

variable (s : State)

/-! `offer` changes lnk alone. -/
@[simp] theorem State.offer_stc (x : TxItem) : (s.offer x).stc = s.stc := by
  rfl
@[simp] theorem State.offer_ctb (x : TxItem) : (s.offer x).ctb = s.ctb := by
  rfl
@[simp] theorem State.offer_syn (x : TxItem) : (s.offer x).syn = s.syn := by
  rfl
@[simp] theorem State.offer_ovl (x : TxItem) : (s.offer x).ovl = s.ovl := by
  rfl
@[simp] theorem State.offer_pls (x : TxItem) : (s.offer x).pls = s.pls := by
  rfl
@[simp] theorem State.offer_seq (x : TxItem) : (s.offer x).seq = s.seq := by
  rfl
@[simp] theorem State.offer_jnt (x : TxItem) : (s.offer x).jnt = s.jnt := by
  rfl
@[simp] theorem State.offer_ptb (x : TxItem) : (s.offer x).ptb = s.ptb := by
  rfl
@[simp] theorem State.offer_lck (x : TxItem) : (s.offer x).lck = s.lck := by
  rfl
@[simp] theorem State.offer_fbm (x : TxItem) : (s.offer x).fbm = s.fbm := by
  rfl
@[simp] theorem State.offer_ftu (x : TxItem) : (s.offer x).ftu = s.ftu := by
  rfl
@[simp] theorem State.offer_freeCount (x : TxItem) : (s.offer x).freeCount = s.freeCount := by
  rfl
@[simp] theorem State.offer_pending (x : TxItem) : (s.offer x).pending = s.pending := by
  rfl

/-! `offerAll` changes lnk alone. -/
@[simp] theorem State.offerAll_stc (p : Payload) : (s.offerAll p).stc = s.stc := by
  rfl
@[simp] theorem State.offerAll_ctb (p : Payload) : (s.offerAll p).ctb = s.ctb := by
  rfl
@[simp] theorem State.offerAll_syn (p : Payload) : (s.offerAll p).syn = s.syn := by
  rfl
@[simp] theorem State.offerAll_ovl (p : Payload) : (s.offerAll p).ovl = s.ovl := by
  rfl
@[simp] theorem State.offerAll_pls (p : Payload) : (s.offerAll p).pls = s.pls := by
  rfl
@[simp] theorem State.offerAll_seq (p : Payload) : (s.offerAll p).seq = s.seq := by
  rfl
@[simp] theorem State.offerAll_jnt (p : Payload) : (s.offerAll p).jnt = s.jnt := by
  rfl
@[simp] theorem State.offerAll_ptb (p : Payload) : (s.offerAll p).ptb = s.ptb := by
  rfl
@[simp] theorem State.offerAll_lck (p : Payload) : (s.offerAll p).lck = s.lck := by
  rfl
@[simp] theorem State.offerAll_fbm (p : Payload) : (s.offerAll p).fbm = s.fbm := by
  rfl
@[simp] theorem State.offerAll_ftu (p : Payload) : (s.offerAll p).ftu = s.ftu := by
  rfl
@[simp] theorem State.offerAll_freeCount (p : Payload) : (s.offerAll p).freeCount = s.freeCount := by
  rfl
@[simp] theorem State.offerAll_pending (p : Payload) : (s.offerAll p).pending = s.pending := by
  rfl

/-! `offerStatus` changes lnk alone. -/
@[simp] theorem State.offerStatus_stc (c : StatusCause) : (s.offerStatus c).stc = s.stc := by
  rfl
@[simp] theorem State.offerStatus_ctb (c : StatusCause) : (s.offerStatus c).ctb = s.ctb := by
  rfl
@[simp] theorem State.offerStatus_syn (c : StatusCause) : (s.offerStatus c).syn = s.syn := by
  rfl
@[simp] theorem State.offerStatus_ovl (c : StatusCause) : (s.offerStatus c).ovl = s.ovl := by
  rfl
@[simp] theorem State.offerStatus_pls (c : StatusCause) : (s.offerStatus c).pls = s.pls := by
  rfl
@[simp] theorem State.offerStatus_seq (c : StatusCause) : (s.offerStatus c).seq = s.seq := by
  rfl
@[simp] theorem State.offerStatus_jnt (c : StatusCause) : (s.offerStatus c).jnt = s.jnt := by
  rfl
@[simp] theorem State.offerStatus_ptb (c : StatusCause) : (s.offerStatus c).ptb = s.ptb := by
  rfl
@[simp] theorem State.offerStatus_lck (c : StatusCause) : (s.offerStatus c).lck = s.lck := by
  rfl
@[simp] theorem State.offerStatus_fbm (c : StatusCause) : (s.offerStatus c).fbm = s.fbm := by
  rfl
@[simp] theorem State.offerStatus_ftu (c : StatusCause) : (s.offerStatus c).ftu = s.ftu := by
  rfl
@[simp] theorem State.offerStatus_freeCount (c : StatusCause) : (s.offerStatus c).freeCount = s.freeCount := by
  rfl
@[simp] theorem State.offerStatus_pending (c : StatusCause) : (s.offerStatus c).pending = s.pending := by
  rfl

/-! `clearSticky` changes syn, ftu, lck, lnk alone. -/
@[simp] theorem State.clearSticky_stc : (s.clearSticky).stc = s.stc := by
  rfl
@[simp] theorem State.clearSticky_ctb : (s.clearSticky).ctb = s.ctb := by
  rfl
@[simp] theorem State.clearSticky_ovl : (s.clearSticky).ovl = s.ovl := by
  rfl
@[simp] theorem State.clearSticky_pls : (s.clearSticky).pls = s.pls := by
  rfl
@[simp] theorem State.clearSticky_seq : (s.clearSticky).seq = s.seq := by
  rfl
@[simp] theorem State.clearSticky_jnt : (s.clearSticky).jnt = s.jnt := by
  rfl
@[simp] theorem State.clearSticky_ptb : (s.clearSticky).ptb = s.ptb := by
  rfl
@[simp] theorem State.clearSticky_fbm : (s.clearSticky).fbm = s.fbm := by
  rfl
@[simp] theorem State.clearSticky_freeCount : (s.clearSticky).freeCount = s.freeCount := by
  rfl
@[simp] theorem State.clearSticky_pending : (s.clearSticky).pending = s.pending := by
  rfl

end Sys2Proof.Machine
end

