-- ==== Sys2Proof/Laws/Ops.lean ====
section
/-! SUPPORT. What each shared operation leaves alone, field by field. -/

set_option Elab.async false

namespace Sys2Proof.Machine

variable (s : State)

/-! `countOrder` changes freeCount alone. -/
@[simp] theorem State.countOrder_stc : (s.countOrder).stc = s.stc := by
  rfl
@[simp] theorem State.countOrder_ctb : (s.countOrder).ctb = s.ctb := by
  rfl
@[simp] theorem State.countOrder_syn : (s.countOrder).syn = s.syn := by
  rfl
@[simp] theorem State.countOrder_ovl : (s.countOrder).ovl = s.ovl := by
  rfl
@[simp] theorem State.countOrder_pls : (s.countOrder).pls = s.pls := by
  rfl
@[simp] theorem State.countOrder_seq : (s.countOrder).seq = s.seq := by
  rfl
@[simp] theorem State.countOrder_jnt : (s.countOrder).jnt = s.jnt := by
  rfl
@[simp] theorem State.countOrder_lnk : (s.countOrder).lnk = s.lnk := by
  rfl
@[simp] theorem State.countOrder_ptb : (s.countOrder).ptb = s.ptb := by
  rfl
@[simp] theorem State.countOrder_lck : (s.countOrder).lck = s.lck := by
  rfl
@[simp] theorem State.countOrder_fbm : (s.countOrder).fbm = s.fbm := by
  rfl
@[simp] theorem State.countOrder_ftu : (s.countOrder).ftu = s.ftu := by
  rfl
@[simp] theorem State.countOrder_pending : (s.countOrder).pending = s.pending := by
  rfl

/-! `pointToNext` changes seq alone. -/
@[simp] theorem State.pointToNext_stc (r : StepRecord) : (s.pointToNext r).stc = s.stc := by
  rfl
@[simp] theorem State.pointToNext_ctb (r : StepRecord) : (s.pointToNext r).ctb = s.ctb := by
  rfl
@[simp] theorem State.pointToNext_syn (r : StepRecord) : (s.pointToNext r).syn = s.syn := by
  rfl
@[simp] theorem State.pointToNext_ovl (r : StepRecord) : (s.pointToNext r).ovl = s.ovl := by
  rfl
@[simp] theorem State.pointToNext_pls (r : StepRecord) : (s.pointToNext r).pls = s.pls := by
  rfl
@[simp] theorem State.pointToNext_jnt (r : StepRecord) : (s.pointToNext r).jnt = s.jnt := by
  rfl
@[simp] theorem State.pointToNext_lnk (r : StepRecord) : (s.pointToNext r).lnk = s.lnk := by
  rfl
@[simp] theorem State.pointToNext_ptb (r : StepRecord) : (s.pointToNext r).ptb = s.ptb := by
  rfl
@[simp] theorem State.pointToNext_lck (r : StepRecord) : (s.pointToNext r).lck = s.lck := by
  rfl
@[simp] theorem State.pointToNext_fbm (r : StepRecord) : (s.pointToNext r).fbm = s.fbm := by
  rfl
@[simp] theorem State.pointToNext_ftu (r : StepRecord) : (s.pointToNext r).ftu = s.ftu := by
  rfl
@[simp] theorem State.pointToNext_freeCount (r : StepRecord) : (s.pointToNext r).freeCount = s.freeCount := by
  rfl
@[simp] theorem State.pointToNext_pending (r : StepRecord) : (s.pointToNext r).pending = s.pending := by
  rfl

/-! `writeBack` changes pls, lnk alone. -/
@[simp] theorem State.writeBack_stc (r : StepRecord) (e : EndReason) (live : Bool) (p : Pass) : (s.writeBack r e live p).stc = s.stc := by
  simp only [State.writeBack]
  split <;> rfl
@[simp] theorem State.writeBack_ctb (r : StepRecord) (e : EndReason) (live : Bool) (p : Pass) : (s.writeBack r e live p).ctb = s.ctb := by
  simp only [State.writeBack]
  split <;> rfl
@[simp] theorem State.writeBack_syn (r : StepRecord) (e : EndReason) (live : Bool) (p : Pass) : (s.writeBack r e live p).syn = s.syn := by
  simp only [State.writeBack]
  split <;> rfl
@[simp] theorem State.writeBack_ovl (r : StepRecord) (e : EndReason) (live : Bool) (p : Pass) : (s.writeBack r e live p).ovl = s.ovl := by
  simp only [State.writeBack]
  split <;> rfl
@[simp] theorem State.writeBack_seq (r : StepRecord) (e : EndReason) (live : Bool) (p : Pass) : (s.writeBack r e live p).seq = s.seq := by
  simp only [State.writeBack]
  split <;> rfl
@[simp] theorem State.writeBack_jnt (r : StepRecord) (e : EndReason) (live : Bool) (p : Pass) : (s.writeBack r e live p).jnt = s.jnt := by
  simp only [State.writeBack]
  split <;> rfl
@[simp] theorem State.writeBack_ptb (r : StepRecord) (e : EndReason) (live : Bool) (p : Pass) : (s.writeBack r e live p).ptb = s.ptb := by
  simp only [State.writeBack]
  split <;> rfl
@[simp] theorem State.writeBack_lck (r : StepRecord) (e : EndReason) (live : Bool) (p : Pass) : (s.writeBack r e live p).lck = s.lck := by
  simp only [State.writeBack]
  split <;> rfl
@[simp] theorem State.writeBack_fbm (r : StepRecord) (e : EndReason) (live : Bool) (p : Pass) : (s.writeBack r e live p).fbm = s.fbm := by
  simp only [State.writeBack]
  split <;> rfl
@[simp] theorem State.writeBack_ftu (r : StepRecord) (e : EndReason) (live : Bool) (p : Pass) : (s.writeBack r e live p).ftu = s.ftu := by
  simp only [State.writeBack]
  split <;> rfl
@[simp] theorem State.writeBack_freeCount (r : StepRecord) (e : EndReason) (live : Bool) (p : Pass) : (s.writeBack r e live p).freeCount = s.freeCount := by
  simp only [State.writeBack]
  split <;> rfl
@[simp] theorem State.writeBack_pending (r : StepRecord) (e : EndReason) (live : Bool) (p : Pass) : (s.writeBack r e live p).pending = s.pending := by
  simp only [State.writeBack]
  split <;> rfl

/-! `removeJoin` changes lnk alone. -/
@[simp] theorem State.removeJoin_stc : (s.removeJoin).stc = s.stc := by
  rfl
@[simp] theorem State.removeJoin_ctb : (s.removeJoin).ctb = s.ctb := by
  rfl
@[simp] theorem State.removeJoin_syn : (s.removeJoin).syn = s.syn := by
  rfl
@[simp] theorem State.removeJoin_ovl : (s.removeJoin).ovl = s.ovl := by
  rfl
@[simp] theorem State.removeJoin_pls : (s.removeJoin).pls = s.pls := by
  rfl
@[simp] theorem State.removeJoin_seq : (s.removeJoin).seq = s.seq := by
  rfl
@[simp] theorem State.removeJoin_jnt : (s.removeJoin).jnt = s.jnt := by
  rfl
@[simp] theorem State.removeJoin_ptb : (s.removeJoin).ptb = s.ptb := by
  rfl
@[simp] theorem State.removeJoin_lck : (s.removeJoin).lck = s.lck := by
  rfl
@[simp] theorem State.removeJoin_fbm : (s.removeJoin).fbm = s.fbm := by
  rfl
@[simp] theorem State.removeJoin_ftu : (s.removeJoin).ftu = s.ftu := by
  rfl
@[simp] theorem State.removeJoin_freeCount : (s.removeJoin).freeCount = s.freeCount := by
  rfl
@[simp] theorem State.removeJoin_pending : (s.removeJoin).pending = s.pending := by
  rfl

/-! `offerWithdraw` changes lnk alone. -/
@[simp] theorem State.offerWithdraw_stc (r : WithdrawReason) : (s.offerWithdraw r).stc = s.stc := by
  rfl
@[simp] theorem State.offerWithdraw_ctb (r : WithdrawReason) : (s.offerWithdraw r).ctb = s.ctb := by
  rfl
@[simp] theorem State.offerWithdraw_syn (r : WithdrawReason) : (s.offerWithdraw r).syn = s.syn := by
  rfl
@[simp] theorem State.offerWithdraw_ovl (r : WithdrawReason) : (s.offerWithdraw r).ovl = s.ovl := by
  rfl
@[simp] theorem State.offerWithdraw_pls (r : WithdrawReason) : (s.offerWithdraw r).pls = s.pls := by
  rfl
@[simp] theorem State.offerWithdraw_seq (r : WithdrawReason) : (s.offerWithdraw r).seq = s.seq := by
  rfl
@[simp] theorem State.offerWithdraw_jnt (r : WithdrawReason) : (s.offerWithdraw r).jnt = s.jnt := by
  rfl
@[simp] theorem State.offerWithdraw_ptb (r : WithdrawReason) : (s.offerWithdraw r).ptb = s.ptb := by
  rfl
@[simp] theorem State.offerWithdraw_lck (r : WithdrawReason) : (s.offerWithdraw r).lck = s.lck := by
  rfl
@[simp] theorem State.offerWithdraw_fbm (r : WithdrawReason) : (s.offerWithdraw r).fbm = s.fbm := by
  rfl
@[simp] theorem State.offerWithdraw_ftu (r : WithdrawReason) : (s.offerWithdraw r).ftu = s.ftu := by
  rfl
@[simp] theorem State.offerWithdraw_freeCount (r : WithdrawReason) : (s.offerWithdraw r).freeCount = s.freeCount := by
  rfl
@[simp] theorem State.offerWithdraw_pending (r : WithdrawReason) : (s.offerWithdraw r).pending = s.pending := by
  rfl

/-! `withdraw` changes lnk, jnt alone. -/
@[simp] theorem State.withdraw_stc (r : WithdrawReason) : (s.withdraw r).stc = s.stc := by
  rfl
@[simp] theorem State.withdraw_ctb (r : WithdrawReason) : (s.withdraw r).ctb = s.ctb := by
  rfl
@[simp] theorem State.withdraw_syn (r : WithdrawReason) : (s.withdraw r).syn = s.syn := by
  rfl
@[simp] theorem State.withdraw_ovl (r : WithdrawReason) : (s.withdraw r).ovl = s.ovl := by
  rfl
@[simp] theorem State.withdraw_pls (r : WithdrawReason) : (s.withdraw r).pls = s.pls := by
  rfl
@[simp] theorem State.withdraw_seq (r : WithdrawReason) : (s.withdraw r).seq = s.seq := by
  rfl
@[simp] theorem State.withdraw_ptb (r : WithdrawReason) : (s.withdraw r).ptb = s.ptb := by
  rfl
@[simp] theorem State.withdraw_lck (r : WithdrawReason) : (s.withdraw r).lck = s.lck := by
  rfl
@[simp] theorem State.withdraw_fbm (r : WithdrawReason) : (s.withdraw r).fbm = s.fbm := by
  rfl
@[simp] theorem State.withdraw_ftu (r : WithdrawReason) : (s.withdraw r).ftu = s.ftu := by
  rfl
@[simp] theorem State.withdraw_freeCount (r : WithdrawReason) : (s.withdraw r).freeCount = s.freeCount := by
  rfl
@[simp] theorem State.withdraw_pending (r : WithdrawReason) : (s.withdraw r).pending = s.pending := by
  rfl

/-! `leaveGathering` changes lnk, jnt alone. -/
@[simp] theorem State.leaveGathering_stc (r : WithdrawReason) : (s.leaveGathering r).stc = s.stc := by
  simp only [State.leaveGathering]
  split <;> rfl
@[simp] theorem State.leaveGathering_ctb (r : WithdrawReason) : (s.leaveGathering r).ctb = s.ctb := by
  simp only [State.leaveGathering]
  split <;> rfl
@[simp] theorem State.leaveGathering_syn (r : WithdrawReason) : (s.leaveGathering r).syn = s.syn := by
  simp only [State.leaveGathering]
  split <;> rfl
@[simp] theorem State.leaveGathering_ovl (r : WithdrawReason) : (s.leaveGathering r).ovl = s.ovl := by
  simp only [State.leaveGathering]
  split <;> rfl
@[simp] theorem State.leaveGathering_pls (r : WithdrawReason) : (s.leaveGathering r).pls = s.pls := by
  simp only [State.leaveGathering]
  split <;> rfl
@[simp] theorem State.leaveGathering_seq (r : WithdrawReason) : (s.leaveGathering r).seq = s.seq := by
  simp only [State.leaveGathering]
  split <;> rfl
@[simp] theorem State.leaveGathering_ptb (r : WithdrawReason) : (s.leaveGathering r).ptb = s.ptb := by
  simp only [State.leaveGathering]
  split <;> rfl
@[simp] theorem State.leaveGathering_lck (r : WithdrawReason) : (s.leaveGathering r).lck = s.lck := by
  simp only [State.leaveGathering]
  split <;> rfl
@[simp] theorem State.leaveGathering_fbm (r : WithdrawReason) : (s.leaveGathering r).fbm = s.fbm := by
  simp only [State.leaveGathering]
  split <;> rfl
@[simp] theorem State.leaveGathering_ftu (r : WithdrawReason) : (s.leaveGathering r).ftu = s.ftu := by
  simp only [State.leaveGathering]
  split <;> rfl
@[simp] theorem State.leaveGathering_freeCount (r : WithdrawReason) : (s.leaveGathering r).freeCount = s.freeCount := by
  simp only [State.leaveGathering]
  split <;> rfl
@[simp] theorem State.leaveGathering_pending (r : WithdrawReason) : (s.leaveGathering r).pending = s.pending := by
  simp only [State.leaveGathering]
  split <;> rfl

/-! `openGate` changes lnk, jnt alone. -/
@[simp] theorem State.openGate_stc (j : JointPart) : (s.openGate j).stc = s.stc := by
  simp only [State.openGate]
  split
  · rfl
  · split <;> rfl
@[simp] theorem State.openGate_ctb (j : JointPart) : (s.openGate j).ctb = s.ctb := by
  simp only [State.openGate]
  split
  · rfl
  · split <;> rfl
@[simp] theorem State.openGate_syn (j : JointPart) : (s.openGate j).syn = s.syn := by
  simp only [State.openGate]
  split
  · rfl
  · split <;> rfl
@[simp] theorem State.openGate_ovl (j : JointPart) : (s.openGate j).ovl = s.ovl := by
  simp only [State.openGate]
  split
  · rfl
  · split <;> rfl
@[simp] theorem State.openGate_pls (j : JointPart) : (s.openGate j).pls = s.pls := by
  simp only [State.openGate]
  split
  · rfl
  · split <;> rfl
@[simp] theorem State.openGate_seq (j : JointPart) : (s.openGate j).seq = s.seq := by
  simp only [State.openGate]
  split
  · rfl
  · split <;> rfl
@[simp] theorem State.openGate_ptb (j : JointPart) : (s.openGate j).ptb = s.ptb := by
  simp only [State.openGate]
  split
  · rfl
  · split <;> rfl
@[simp] theorem State.openGate_lck (j : JointPart) : (s.openGate j).lck = s.lck := by
  simp only [State.openGate]
  split
  · rfl
  · split <;> rfl
@[simp] theorem State.openGate_fbm (j : JointPart) : (s.openGate j).fbm = s.fbm := by
  simp only [State.openGate]
  split
  · rfl
  · split <;> rfl
@[simp] theorem State.openGate_ftu (j : JointPart) : (s.openGate j).ftu = s.ftu := by
  simp only [State.openGate]
  split
  · rfl
  · split <;> rfl
@[simp] theorem State.openGate_freeCount (j : JointPart) : (s.openGate j).freeCount = s.freeCount := by
  simp only [State.openGate]
  split
  · rfl
  · split <;> rfl
@[simp] theorem State.openGate_pending (j : JointPart) : (s.openGate j).pending = s.pending := by
  simp only [State.openGate]
  split
  · rfl
  · split <;> rfl

/-! `enterGathering` changes seq, lnk, jnt alone. -/
@[simp] theorem State.enterGathering_stc (j : JointPart) : (s.enterGathering j).stc = s.stc := by
  simp [State.enterGathering]
@[simp] theorem State.enterGathering_ctb (j : JointPart) : (s.enterGathering j).ctb = s.ctb := by
  simp [State.enterGathering]
@[simp] theorem State.enterGathering_syn (j : JointPart) : (s.enterGathering j).syn = s.syn := by
  simp [State.enterGathering]
@[simp] theorem State.enterGathering_ovl (j : JointPart) : (s.enterGathering j).ovl = s.ovl := by
  simp [State.enterGathering]
@[simp] theorem State.enterGathering_pls (j : JointPart) : (s.enterGathering j).pls = s.pls := by
  simp [State.enterGathering]
@[simp] theorem State.enterGathering_ptb (j : JointPart) : (s.enterGathering j).ptb = s.ptb := by
  simp [State.enterGathering]
@[simp] theorem State.enterGathering_lck (j : JointPart) : (s.enterGathering j).lck = s.lck := by
  simp [State.enterGathering]
@[simp] theorem State.enterGathering_fbm (j : JointPart) : (s.enterGathering j).fbm = s.fbm := by
  simp [State.enterGathering]
@[simp] theorem State.enterGathering_ftu (j : JointPart) : (s.enterGathering j).ftu = s.ftu := by
  simp [State.enterGathering]
@[simp] theorem State.enterGathering_freeCount (j : JointPart) : (s.enterGathering j).freeCount = s.freeCount := by
  simp [State.enterGathering]
@[simp] theorem State.enterGathering_pending (j : JointPart) : (s.enterGathering j).pending = s.pending := by
  simp [State.enterGathering]

/-! `enterFalling` changes syn, ovl, ctb alone. -/
@[simp] theorem State.enterFalling_stc : (s.enterFalling).stc = s.stc := by
  simp only [State.enterFalling]
  split <;> rfl
@[simp] theorem State.enterFalling_pls : (s.enterFalling).pls = s.pls := by
  simp only [State.enterFalling]
  split <;> rfl
@[simp] theorem State.enterFalling_seq : (s.enterFalling).seq = s.seq := by
  simp only [State.enterFalling]
  split <;> rfl
@[simp] theorem State.enterFalling_jnt : (s.enterFalling).jnt = s.jnt := by
  simp only [State.enterFalling]
  split <;> rfl
@[simp] theorem State.enterFalling_lnk : (s.enterFalling).lnk = s.lnk := by
  simp only [State.enterFalling]
  split <;> rfl
@[simp] theorem State.enterFalling_ptb : (s.enterFalling).ptb = s.ptb := by
  simp only [State.enterFalling]
  split <;> rfl
@[simp] theorem State.enterFalling_lck : (s.enterFalling).lck = s.lck := by
  simp only [State.enterFalling]
  split <;> rfl
@[simp] theorem State.enterFalling_fbm : (s.enterFalling).fbm = s.fbm := by
  simp only [State.enterFalling]
  split <;> rfl
@[simp] theorem State.enterFalling_ftu : (s.enterFalling).ftu = s.ftu := by
  simp only [State.enterFalling]
  split <;> rfl
@[simp] theorem State.enterFalling_freeCount : (s.enterFalling).freeCount = s.freeCount := by
  simp only [State.enterFalling]
  split <;> rfl
@[simp] theorem State.enterFalling_pending : (s.enterFalling).pending = s.pending := by
  simp only [State.enterFalling]
  split <;> rfl

/-! `dropStep` changes pls, lnk, seq, jnt alone. -/
@[simp] theorem State.dropStep_stc (e : EndReason) (w : WithdrawReason) : (s.dropStep e w).stc = s.stc := by
  simp only [State.dropStep]
  split <;> simp
@[simp] theorem State.dropStep_ctb (e : EndReason) (w : WithdrawReason) : (s.dropStep e w).ctb = s.ctb := by
  simp only [State.dropStep]
  split <;> simp
@[simp] theorem State.dropStep_syn (e : EndReason) (w : WithdrawReason) : (s.dropStep e w).syn = s.syn := by
  simp only [State.dropStep]
  split <;> simp
@[simp] theorem State.dropStep_ovl (e : EndReason) (w : WithdrawReason) : (s.dropStep e w).ovl = s.ovl := by
  simp only [State.dropStep]
  split <;> simp
@[simp] theorem State.dropStep_ptb (e : EndReason) (w : WithdrawReason) : (s.dropStep e w).ptb = s.ptb := by
  simp only [State.dropStep]
  split <;> simp
@[simp] theorem State.dropStep_lck (e : EndReason) (w : WithdrawReason) : (s.dropStep e w).lck = s.lck := by
  simp only [State.dropStep]
  split <;> simp
@[simp] theorem State.dropStep_fbm (e : EndReason) (w : WithdrawReason) : (s.dropStep e w).fbm = s.fbm := by
  simp only [State.dropStep]
  split <;> simp
@[simp] theorem State.dropStep_ftu (e : EndReason) (w : WithdrawReason) : (s.dropStep e w).ftu = s.ftu := by
  simp only [State.dropStep]
  split <;> simp
@[simp] theorem State.dropStep_freeCount (e : EndReason) (w : WithdrawReason) : (s.dropStep e w).freeCount = s.freeCount := by
  simp only [State.dropStep]
  split <;> simp
@[simp] theorem State.dropStep_pending (e : EndReason) (w : WithdrawReason) : (s.dropStep e w).pending = s.pending := by
  simp only [State.dropStep]
  split <;> simp

/-! `rest` changes seq alone. -/
@[simp] theorem State.rest_stc (q : SeqState) : (s.rest q).stc = s.stc := by
  rfl
@[simp] theorem State.rest_ctb (q : SeqState) : (s.rest q).ctb = s.ctb := by
  rfl
@[simp] theorem State.rest_syn (q : SeqState) : (s.rest q).syn = s.syn := by
  rfl
@[simp] theorem State.rest_ovl (q : SeqState) : (s.rest q).ovl = s.ovl := by
  rfl
@[simp] theorem State.rest_pls (q : SeqState) : (s.rest q).pls = s.pls := by
  rfl
@[simp] theorem State.rest_jnt (q : SeqState) : (s.rest q).jnt = s.jnt := by
  rfl
@[simp] theorem State.rest_lnk (q : SeqState) : (s.rest q).lnk = s.lnk := by
  rfl
@[simp] theorem State.rest_ptb (q : SeqState) : (s.rest q).ptb = s.ptb := by
  rfl
@[simp] theorem State.rest_lck (q : SeqState) : (s.rest q).lck = s.lck := by
  rfl
@[simp] theorem State.rest_fbm (q : SeqState) : (s.rest q).fbm = s.fbm := by
  rfl
@[simp] theorem State.rest_ftu (q : SeqState) : (s.rest q).ftu = s.ftu := by
  rfl
@[simp] theorem State.rest_freeCount (q : SeqState) : (s.rest q).freeCount = s.freeCount := by
  rfl
@[simp] theorem State.rest_pending (q : SeqState) : (s.rest q).pending = s.pending := by
  rfl

/-! `fault` changes ctb, jnt, lnk, ovl, pls, seq, syn alone. -/
@[simp] theorem State.fault_stc (c : FaultCause) : (s.fault c).stc = s.stc := by
  simp only [State.fault]
  split <;> simp
@[simp] theorem State.fault_ptb (c : FaultCause) : (s.fault c).ptb = s.ptb := by
  simp only [State.fault]
  split <;> simp
@[simp] theorem State.fault_lck (c : FaultCause) : (s.fault c).lck = s.lck := by
  simp only [State.fault]
  split <;> simp
@[simp] theorem State.fault_fbm (c : FaultCause) : (s.fault c).fbm = s.fbm := by
  simp only [State.fault]
  split <;> simp
@[simp] theorem State.fault_ftu (c : FaultCause) : (s.fault c).ftu = s.ftu := by
  simp only [State.fault]
  split <;> simp
@[simp] theorem State.fault_freeCount (c : FaultCause) : (s.fault c).freeCount = s.freeCount := by
  simp only [State.fault]
  split <;> simp
@[simp] theorem State.fault_pending (c : FaultCause) : (s.fault c).pending = s.pending := by
  simp only [State.fault]
  split <;> simp

/-! `trip` changes ctb, jnt, lnk, ovl, pls, seq, syn, ftu alone. -/
@[simp] theorem State.trip_stc (c : TripCause) : (s.trip c).stc = s.stc := by
  simp only [State.trip]
  split <;> simp
@[simp] theorem State.trip_ptb (c : TripCause) : (s.trip c).ptb = s.ptb := by
  simp only [State.trip]
  split <;> simp
@[simp] theorem State.trip_lck (c : TripCause) : (s.trip c).lck = s.lck := by
  simp only [State.trip]
  split <;> simp
@[simp] theorem State.trip_fbm (c : TripCause) : (s.trip c).fbm = s.fbm := by
  simp only [State.trip]
  split <;> simp
@[simp] theorem State.trip_freeCount (c : TripCause) : (s.trip c).freeCount = s.freeCount := by
  simp only [State.trip]
  split <;> simp
@[simp] theorem State.trip_pending (c : TripCause) : (s.trip c).pending = s.pending := by
  simp only [State.trip]
  split <;> simp

/-! `abandon` changes pls, lnk, seq, jnt alone. -/
@[simp] theorem State.abandon_stc : (s.abandon).stc = s.stc := by
  simp only [State.abandon]
  split <;> simp
@[simp] theorem State.abandon_ctb : (s.abandon).ctb = s.ctb := by
  simp only [State.abandon]
  split <;> simp
@[simp] theorem State.abandon_syn : (s.abandon).syn = s.syn := by
  simp only [State.abandon]
  split <;> simp
@[simp] theorem State.abandon_ovl : (s.abandon).ovl = s.ovl := by
  simp only [State.abandon]
  split <;> simp
@[simp] theorem State.abandon_ptb : (s.abandon).ptb = s.ptb := by
  simp only [State.abandon]
  split <;> simp
@[simp] theorem State.abandon_lck : (s.abandon).lck = s.lck := by
  simp only [State.abandon]
  split <;> simp
@[simp] theorem State.abandon_fbm : (s.abandon).fbm = s.fbm := by
  simp only [State.abandon]
  split <;> simp
@[simp] theorem State.abandon_ftu : (s.abandon).ftu = s.ftu := by
  simp only [State.abandon]
  split <;> simp
@[simp] theorem State.abandon_freeCount : (s.abandon).freeCount = s.freeCount := by
  simp only [State.abandon]
  split <;> simp
@[simp] theorem State.abandon_pending : (s.abandon).pending = s.pending := by
  simp only [State.abandon]
  split <;> simp

/-! `arm` changes seq, lnk, jnt alone. -/
@[simp] theorem State.arm_stc (r : StepRecord) : (s.arm r).stc = s.stc := by
  simp only [State.arm]
  split
  · split <;> simp
  · simp
@[simp] theorem State.arm_ctb (r : StepRecord) : (s.arm r).ctb = s.ctb := by
  simp only [State.arm]
  split
  · split <;> simp
  · simp
@[simp] theorem State.arm_syn (r : StepRecord) : (s.arm r).syn = s.syn := by
  simp only [State.arm]
  split
  · split <;> simp
  · simp
@[simp] theorem State.arm_ovl (r : StepRecord) : (s.arm r).ovl = s.ovl := by
  simp only [State.arm]
  split
  · split <;> simp
  · simp
@[simp] theorem State.arm_pls (r : StepRecord) : (s.arm r).pls = s.pls := by
  simp only [State.arm]
  split
  · split <;> simp
  · simp
@[simp] theorem State.arm_ptb (r : StepRecord) : (s.arm r).ptb = s.ptb := by
  simp only [State.arm]
  split
  · split <;> simp
  · simp
@[simp] theorem State.arm_lck (r : StepRecord) : (s.arm r).lck = s.lck := by
  simp only [State.arm]
  split
  · split <;> simp
  · simp
@[simp] theorem State.arm_fbm (r : StepRecord) : (s.arm r).fbm = s.fbm := by
  simp only [State.arm]
  split
  · split <;> simp
  · simp
@[simp] theorem State.arm_ftu (r : StepRecord) : (s.arm r).ftu = s.ftu := by
  simp only [State.arm]
  split
  · split <;> simp
  · simp
@[simp] theorem State.arm_freeCount (r : StepRecord) : (s.arm r).freeCount = s.freeCount := by
  simp only [State.arm]
  split
  · split <;> simp
  · simp
@[simp] theorem State.arm_pending (r : StepRecord) : (s.arm r).pending = s.pending := by
  simp only [State.arm]
  split
  · split <;> simp
  · simp

/-! `takeStep` changes ctb, jnt, lnk, ovl, pls, seq, syn alone. -/
@[simp] theorem State.takeStep_stc : (s.takeStep).stc = s.stc := by
  simp only [State.takeStep]
  split <;> simp
@[simp] theorem State.takeStep_ptb : (s.takeStep).ptb = s.ptb := by
  simp only [State.takeStep]
  split <;> simp
@[simp] theorem State.takeStep_lck : (s.takeStep).lck = s.lck := by
  simp only [State.takeStep]
  split <;> simp
@[simp] theorem State.takeStep_fbm : (s.takeStep).fbm = s.fbm := by
  simp only [State.takeStep]
  split <;> simp
@[simp] theorem State.takeStep_ftu : (s.takeStep).ftu = s.ftu := by
  simp only [State.takeStep]
  split <;> simp
@[simp] theorem State.takeStep_freeCount : (s.takeStep).freeCount = s.freeCount := by
  simp only [State.takeStep]
  split <;> simp
@[simp] theorem State.takeStep_pending : (s.takeStep).pending = s.pending := by
  simp only [State.takeStep]
  split <;> simp

/-! `moveOn` changes ctb, jnt, lnk, ovl, pls, seq, syn alone. -/
@[simp] theorem State.moveOn_stc (r : StepRecord) : (s.moveOn r).stc = s.stc := by
  simp only [State.moveOn]
  split <;> simp
@[simp] theorem State.moveOn_ptb (r : StepRecord) : (s.moveOn r).ptb = s.ptb := by
  simp only [State.moveOn]
  split <;> simp
@[simp] theorem State.moveOn_lck (r : StepRecord) : (s.moveOn r).lck = s.lck := by
  simp only [State.moveOn]
  split <;> simp
@[simp] theorem State.moveOn_fbm (r : StepRecord) : (s.moveOn r).fbm = s.fbm := by
  simp only [State.moveOn]
  split <;> simp
@[simp] theorem State.moveOn_ftu (r : StepRecord) : (s.moveOn r).ftu = s.ftu := by
  simp only [State.moveOn]
  split <;> simp
@[simp] theorem State.moveOn_freeCount (r : StepRecord) : (s.moveOn r).freeCount = s.freeCount := by
  simp only [State.moveOn]
  split <;> simp
@[simp] theorem State.moveOn_pending (r : StepRecord) : (s.moveOn r).pending = s.pending := by
  simp only [State.moveOn]
  split <;> simp

/-! `freeze` changes seq, lnk alone. -/
@[simp] theorem State.freeze_stc : (s.freeze).stc = s.stc := by
  simp only [State.freeze]
  split <;> simp
@[simp] theorem State.freeze_ctb : (s.freeze).ctb = s.ctb := by
  simp only [State.freeze]
  split <;> simp
@[simp] theorem State.freeze_syn : (s.freeze).syn = s.syn := by
  simp only [State.freeze]
  split <;> simp
@[simp] theorem State.freeze_ovl : (s.freeze).ovl = s.ovl := by
  simp only [State.freeze]
  split <;> simp
@[simp] theorem State.freeze_pls : (s.freeze).pls = s.pls := by
  simp only [State.freeze]
  split <;> simp
@[simp] theorem State.freeze_jnt : (s.freeze).jnt = s.jnt := by
  simp only [State.freeze]
  split <;> simp
@[simp] theorem State.freeze_ptb : (s.freeze).ptb = s.ptb := by
  simp only [State.freeze]
  split <;> simp
@[simp] theorem State.freeze_lck : (s.freeze).lck = s.lck := by
  simp only [State.freeze]
  split <;> simp
@[simp] theorem State.freeze_fbm : (s.freeze).fbm = s.fbm := by
  simp only [State.freeze]
  split <;> simp
@[simp] theorem State.freeze_ftu : (s.freeze).ftu = s.ftu := by
  simp only [State.freeze]
  split <;> simp
@[simp] theorem State.freeze_freeCount : (s.freeze).freeCount = s.freeCount := by
  simp only [State.freeze]
  split <;> simp
@[simp] theorem State.freeze_pending : (s.freeze).pending = s.pending := by
  simp only [State.freeze]
  split <;> simp

/-! `thaw` changes seq, lnk alone. -/
@[simp] theorem State.thaw_stc : (s.thaw).stc = s.stc := by
  simp only [State.thaw]
  split <;> simp
@[simp] theorem State.thaw_ctb : (s.thaw).ctb = s.ctb := by
  simp only [State.thaw]
  split <;> simp
@[simp] theorem State.thaw_syn : (s.thaw).syn = s.syn := by
  simp only [State.thaw]
  split <;> simp
@[simp] theorem State.thaw_ovl : (s.thaw).ovl = s.ovl := by
  simp only [State.thaw]
  split <;> simp
@[simp] theorem State.thaw_pls : (s.thaw).pls = s.pls := by
  simp only [State.thaw]
  split <;> simp
@[simp] theorem State.thaw_jnt : (s.thaw).jnt = s.jnt := by
  simp only [State.thaw]
  split <;> simp
@[simp] theorem State.thaw_ptb : (s.thaw).ptb = s.ptb := by
  simp only [State.thaw]
  split <;> simp
@[simp] theorem State.thaw_lck : (s.thaw).lck = s.lck := by
  simp only [State.thaw]
  split <;> simp
@[simp] theorem State.thaw_fbm : (s.thaw).fbm = s.fbm := by
  simp only [State.thaw]
  split <;> simp
@[simp] theorem State.thaw_ftu : (s.thaw).ftu = s.ftu := by
  simp only [State.thaw]
  split <;> simp
@[simp] theorem State.thaw_freeCount : (s.thaw).freeCount = s.freeCount := by
  simp only [State.thaw]
  split <;> simp
@[simp] theorem State.thaw_pending : (s.thaw).pending = s.pending := by
  simp only [State.thaw]
  split <;> simp

/-! `applyPolicy` changes ctb, jnt, lnk, ovl, pls, seq, syn, ftu alone. -/
@[simp] theorem State.applyPolicy_stc (c : TripCause) : (s.applyPolicy c).stc = s.stc := by
  simp only [State.applyPolicy]
  split
  · rfl
  · split <;> simp
@[simp] theorem State.applyPolicy_ptb (c : TripCause) : (s.applyPolicy c).ptb = s.ptb := by
  simp only [State.applyPolicy]
  split
  · rfl
  · split <;> simp
@[simp] theorem State.applyPolicy_lck (c : TripCause) : (s.applyPolicy c).lck = s.lck := by
  simp only [State.applyPolicy]
  split
  · rfl
  · split <;> simp
@[simp] theorem State.applyPolicy_fbm (c : TripCause) : (s.applyPolicy c).fbm = s.fbm := by
  simp only [State.applyPolicy]
  split
  · rfl
  · split <;> simp
@[simp] theorem State.applyPolicy_freeCount (c : TripCause) : (s.applyPolicy c).freeCount = s.freeCount := by
  simp only [State.applyPolicy]
  split
  · rfl
  · split <;> simp
@[simp] theorem State.applyPolicy_pending (c : TripCause) : (s.applyPolicy c).pending = s.pending := by
  simp only [State.applyPolicy]
  split
  · rfl
  · split <;> simp

/-! `maskedTrouble` changes lnk, jnt alone. -/
@[simp] theorem State.maskedTrouble_stc (n : Station) (r : WithdrawReason) : (s.maskedTrouble n r).stc = s.stc := by
  simp only [State.maskedTrouble]
  split <;> simp
@[simp] theorem State.maskedTrouble_ctb (n : Station) (r : WithdrawReason) : (s.maskedTrouble n r).ctb = s.ctb := by
  simp only [State.maskedTrouble]
  split <;> simp
@[simp] theorem State.maskedTrouble_syn (n : Station) (r : WithdrawReason) : (s.maskedTrouble n r).syn = s.syn := by
  simp only [State.maskedTrouble]
  split <;> simp
@[simp] theorem State.maskedTrouble_ovl (n : Station) (r : WithdrawReason) : (s.maskedTrouble n r).ovl = s.ovl := by
  simp only [State.maskedTrouble]
  split <;> simp
@[simp] theorem State.maskedTrouble_pls (n : Station) (r : WithdrawReason) : (s.maskedTrouble n r).pls = s.pls := by
  simp only [State.maskedTrouble]
  split <;> simp
@[simp] theorem State.maskedTrouble_seq (n : Station) (r : WithdrawReason) : (s.maskedTrouble n r).seq = s.seq := by
  simp only [State.maskedTrouble]
  split <;> simp
@[simp] theorem State.maskedTrouble_ptb (n : Station) (r : WithdrawReason) : (s.maskedTrouble n r).ptb = s.ptb := by
  simp only [State.maskedTrouble]
  split <;> simp
@[simp] theorem State.maskedTrouble_lck (n : Station) (r : WithdrawReason) : (s.maskedTrouble n r).lck = s.lck := by
  simp only [State.maskedTrouble]
  split <;> simp
@[simp] theorem State.maskedTrouble_fbm (n : Station) (r : WithdrawReason) : (s.maskedTrouble n r).fbm = s.fbm := by
  simp only [State.maskedTrouble]
  split <;> simp
@[simp] theorem State.maskedTrouble_ftu (n : Station) (r : WithdrawReason) : (s.maskedTrouble n r).ftu = s.ftu := by
  simp only [State.maskedTrouble]
  split <;> simp
@[simp] theorem State.maskedTrouble_freeCount (n : Station) (r : WithdrawReason) : (s.maskedTrouble n r).freeCount = s.freeCount := by
  simp only [State.maskedTrouble]
  split <;> simp
@[simp] theorem State.maskedTrouble_pending (n : Station) (r : WithdrawReason) : (s.maskedTrouble n r).pending = s.pending := by
  simp only [State.maskedTrouble]
  split <;> simp

/-! `peerTrouble` changes ctb, jnt, lnk, ovl, pls, seq, syn, ftu, freeCount alone. -/
@[simp] theorem State.peerTrouble_stc (n : Station) (c : TripCause) (r : WithdrawReason) : (s.peerTrouble n c r).stc = s.stc := by
  simp only [State.peerTrouble, State.eitherOrder]
  split
  · split <;> simp
  · simp
@[simp] theorem State.peerTrouble_ptb (n : Station) (c : TripCause) (r : WithdrawReason) : (s.peerTrouble n c r).ptb = s.ptb := by
  simp only [State.peerTrouble, State.eitherOrder]
  split
  · split <;> simp
  · simp
@[simp] theorem State.peerTrouble_lck (n : Station) (c : TripCause) (r : WithdrawReason) : (s.peerTrouble n c r).lck = s.lck := by
  simp only [State.peerTrouble, State.eitherOrder]
  split
  · split <;> simp
  · simp
@[simp] theorem State.peerTrouble_fbm (n : Station) (c : TripCause) (r : WithdrawReason) : (s.peerTrouble n c r).fbm = s.fbm := by
  simp only [State.peerTrouble, State.eitherOrder]
  split
  · split <;> simp
  · simp
@[simp] theorem State.peerTrouble_pending (n : Station) (c : TripCause) (r : WithdrawReason) : (s.peerTrouble n c r).pending = s.pending := by
  simp only [State.peerTrouble, State.eitherOrder]
  split
  · split <;> simp
  · simp

/-! `updatePeer` changes ctb, jnt, lnk, ovl, pls, seq, syn, ftu, freeCount, ptb alone. -/
@[simp] theorem State.updatePeer_stc (n : Station) (r : PeerRecord) : (s.updatePeer n r).stc = s.stc := by
  simp only [State.updatePeer]
  split
  · rfl
  · split
    · simp
    · split
      · simp
      · split <;> simp
@[simp] theorem State.updatePeer_lck (n : Station) (r : PeerRecord) : (s.updatePeer n r).lck = s.lck := by
  simp only [State.updatePeer]
  split
  · rfl
  · split
    · simp
    · split
      · simp
      · split <;> simp
@[simp] theorem State.updatePeer_fbm (n : Station) (r : PeerRecord) : (s.updatePeer n r).fbm = s.fbm := by
  simp only [State.updatePeer]
  split
  · rfl
  · split
    · simp
    · split
      · simp
      · split <;> simp
@[simp] theorem State.updatePeer_pending (n : Station) (r : PeerRecord) : (s.updatePeer n r).pending = s.pending := by
  simp only [State.updatePeer]
  split
  · rfl
  · split
    · simp
    · split
      · simp
      · split <;> simp

/-! `carryLoss` changes ctb, jnt, lnk, ovl, pls, seq, syn, ftu, freeCount, ptb alone. -/
@[simp] theorem State.carryLoss_stc (n : Station) : (s.carryLoss n).stc = s.stc := by
  simp only [State.carryLoss]
  split <;> simp
@[simp] theorem State.carryLoss_lck (n : Station) : (s.carryLoss n).lck = s.lck := by
  simp only [State.carryLoss]
  split <;> simp
@[simp] theorem State.carryLoss_fbm (n : Station) : (s.carryLoss n).fbm = s.fbm := by
  simp only [State.carryLoss]
  split <;> simp
@[simp] theorem State.carryLoss_pending (n : Station) : (s.carryLoss n).pending = s.pending := by
  simp only [State.carryLoss]
  split <;> simp

/-! `carryLosses` changes ctb, jnt, lnk, ovl, pls, seq, syn, ftu, freeCount, ptb alone. -/
@[simp] theorem State.carryLosses_stc : (s.carryLosses).stc = s.stc := by
  simp [State.carryLosses, stations]
@[simp] theorem State.carryLosses_lck : (s.carryLosses).lck = s.lck := by
  simp [State.carryLosses, stations]
@[simp] theorem State.carryLosses_fbm : (s.carryLosses).fbm = s.fbm := by
  simp [State.carryLosses, stations]
@[simp] theorem State.carryLosses_pending : (s.carryLosses).pending = s.pending := by
  simp [State.carryLosses, stations]

end Sys2Proof.Machine
end

