-- ==== Sys2Proof/Laws/Sample.lean ====
section
/-! SUPPORT. What each part of a sample event leaves alone, field by field. -/

set_option Elab.async false

namespace Sys2Proof.Machine

variable (s : State)

/-! `evaluateLock` changes lck, ctb, ptb, lnk alone. -/
@[simp] theorem State.evaluateLock_stc (f : Nat) : (s.evaluateLock f).stc = s.stc := by
  simp only [State.evaluateLock]
  split
  · rfl
  · split <;> rfl
@[simp] theorem State.evaluateLock_syn (f : Nat) : (s.evaluateLock f).syn = s.syn := by
  simp only [State.evaluateLock]
  split
  · rfl
  · split <;> rfl
@[simp] theorem State.evaluateLock_ovl (f : Nat) : (s.evaluateLock f).ovl = s.ovl := by
  simp only [State.evaluateLock]
  split
  · rfl
  · split <;> rfl
@[simp] theorem State.evaluateLock_pls (f : Nat) : (s.evaluateLock f).pls = s.pls := by
  simp only [State.evaluateLock]
  split
  · rfl
  · split <;> rfl
@[simp] theorem State.evaluateLock_seq (f : Nat) : (s.evaluateLock f).seq = s.seq := by
  simp only [State.evaluateLock]
  split
  · rfl
  · split <;> rfl
@[simp] theorem State.evaluateLock_jnt (f : Nat) : (s.evaluateLock f).jnt = s.jnt := by
  simp only [State.evaluateLock]
  split
  · rfl
  · split <;> rfl
@[simp] theorem State.evaluateLock_fbm (f : Nat) : (s.evaluateLock f).fbm = s.fbm := by
  simp only [State.evaluateLock]
  split
  · rfl
  · split <;> rfl
@[simp] theorem State.evaluateLock_ftu (f : Nat) : (s.evaluateLock f).ftu = s.ftu := by
  simp only [State.evaluateLock]
  split
  · rfl
  · split <;> rfl
@[simp] theorem State.evaluateLock_freeCount (f : Nat) : (s.evaluateLock f).freeCount = s.freeCount := by
  simp only [State.evaluateLock]
  split
  · rfl
  · split <;> rfl
@[simp] theorem State.evaluateLock_pending (f : Nat) : (s.evaluateLock f).pending = s.pending := by
  simp only [State.evaluateLock]
  split
  · rfl
  · split <;> rfl

/-! `carryEvaluation` changes lck, ctb, ptb, lnk alone. -/
@[simp] theorem State.carryEvaluation_stc : (s.carryEvaluation).stc = s.stc := by
  simp only [State.carryEvaluation]
  split
  · split <;> simp
  · rfl
@[simp] theorem State.carryEvaluation_syn : (s.carryEvaluation).syn = s.syn := by
  simp only [State.carryEvaluation]
  split
  · split <;> simp
  · rfl
@[simp] theorem State.carryEvaluation_ovl : (s.carryEvaluation).ovl = s.ovl := by
  simp only [State.carryEvaluation]
  split
  · split <;> simp
  · rfl
@[simp] theorem State.carryEvaluation_pls : (s.carryEvaluation).pls = s.pls := by
  simp only [State.carryEvaluation]
  split
  · split <;> simp
  · rfl
@[simp] theorem State.carryEvaluation_seq : (s.carryEvaluation).seq = s.seq := by
  simp only [State.carryEvaluation]
  split
  · split <;> simp
  · rfl
@[simp] theorem State.carryEvaluation_jnt : (s.carryEvaluation).jnt = s.jnt := by
  simp only [State.carryEvaluation]
  split
  · split <;> simp
  · rfl
@[simp] theorem State.carryEvaluation_fbm : (s.carryEvaluation).fbm = s.fbm := by
  simp only [State.carryEvaluation]
  split
  · split <;> simp
  · rfl
@[simp] theorem State.carryEvaluation_ftu : (s.carryEvaluation).ftu = s.ftu := by
  simp only [State.carryEvaluation]
  split
  · split <;> simp
  · rfl
@[simp] theorem State.carryEvaluation_freeCount : (s.carryEvaluation).freeCount = s.freeCount := by
  simp only [State.carryEvaluation]
  split
  · split <;> simp
  · rfl
@[simp] theorem State.carryEvaluation_pending : (s.carryEvaluation).pending = s.pending := by
  simp only [State.carryEvaluation]
  split
  · split <;> simp
  · rfl

/-! `commonWrap` changes lck, ctb, ptb, lnk, jnt alone. -/
@[simp] theorem State.commonWrap_stc (a : Advance) : (s.commonWrap a).stc = s.stc := by
  simp only [State.commonWrap]
  split <;> simp
@[simp] theorem State.commonWrap_syn (a : Advance) : (s.commonWrap a).syn = s.syn := by
  simp only [State.commonWrap]
  split <;> simp
@[simp] theorem State.commonWrap_ovl (a : Advance) : (s.commonWrap a).ovl = s.ovl := by
  simp only [State.commonWrap]
  split <;> simp
@[simp] theorem State.commonWrap_pls (a : Advance) : (s.commonWrap a).pls = s.pls := by
  simp only [State.commonWrap]
  split <;> simp
@[simp] theorem State.commonWrap_seq (a : Advance) : (s.commonWrap a).seq = s.seq := by
  simp only [State.commonWrap]
  split <;> simp
@[simp] theorem State.commonWrap_fbm (a : Advance) : (s.commonWrap a).fbm = s.fbm := by
  simp only [State.commonWrap]
  split <;> simp
@[simp] theorem State.commonWrap_ftu (a : Advance) : (s.commonWrap a).ftu = s.ftu := by
  simp only [State.commonWrap]
  split <;> simp
@[simp] theorem State.commonWrap_freeCount (a : Advance) : (s.commonWrap a).freeCount = s.freeCount := by
  simp only [State.commonWrap]
  split <;> simp
@[simp] theorem State.commonWrap_pending (a : Advance) : (s.commonWrap a).pending = s.pending := by
  simp only [State.commonWrap]
  split <;> simp

/-! `closeCycle` changes fbm alone. -/
@[simp] theorem State.closeCycle_stc : (s.closeCycle).stc = s.stc := by
  rfl
@[simp] theorem State.closeCycle_ctb : (s.closeCycle).ctb = s.ctb := by
  rfl
@[simp] theorem State.closeCycle_syn : (s.closeCycle).syn = s.syn := by
  rfl
@[simp] theorem State.closeCycle_ovl : (s.closeCycle).ovl = s.ovl := by
  rfl
@[simp] theorem State.closeCycle_pls : (s.closeCycle).pls = s.pls := by
  rfl
@[simp] theorem State.closeCycle_seq : (s.closeCycle).seq = s.seq := by
  rfl
@[simp] theorem State.closeCycle_jnt : (s.closeCycle).jnt = s.jnt := by
  rfl
@[simp] theorem State.closeCycle_lnk : (s.closeCycle).lnk = s.lnk := by
  rfl
@[simp] theorem State.closeCycle_ptb : (s.closeCycle).ptb = s.ptb := by
  rfl
@[simp] theorem State.closeCycle_lck : (s.closeCycle).lck = s.lck := by
  rfl
@[simp] theorem State.closeCycle_ftu : (s.closeCycle).ftu = s.ftu := by
  rfl
@[simp] theorem State.closeCycle_freeCount : (s.closeCycle).freeCount = s.freeCount := by
  rfl
@[simp] theorem State.closeCycle_pending : (s.closeCycle).pending = s.pending := by
  rfl

/-! `closeFold` changes ftu alone. -/
@[simp] theorem State.closeFold_stc : (s.closeFold).stc = s.stc := by
  simp only [State.closeFold]
  split
  · rfl
  · split <;> rfl
@[simp] theorem State.closeFold_ctb : (s.closeFold).ctb = s.ctb := by
  simp only [State.closeFold]
  split
  · rfl
  · split <;> rfl
@[simp] theorem State.closeFold_syn : (s.closeFold).syn = s.syn := by
  simp only [State.closeFold]
  split
  · rfl
  · split <;> rfl
@[simp] theorem State.closeFold_ovl : (s.closeFold).ovl = s.ovl := by
  simp only [State.closeFold]
  split
  · rfl
  · split <;> rfl
@[simp] theorem State.closeFold_pls : (s.closeFold).pls = s.pls := by
  simp only [State.closeFold]
  split
  · rfl
  · split <;> rfl
@[simp] theorem State.closeFold_seq : (s.closeFold).seq = s.seq := by
  simp only [State.closeFold]
  split
  · rfl
  · split <;> rfl
@[simp] theorem State.closeFold_jnt : (s.closeFold).jnt = s.jnt := by
  simp only [State.closeFold]
  split
  · rfl
  · split <;> rfl
@[simp] theorem State.closeFold_lnk : (s.closeFold).lnk = s.lnk := by
  simp only [State.closeFold]
  split
  · rfl
  · split <;> rfl
@[simp] theorem State.closeFold_ptb : (s.closeFold).ptb = s.ptb := by
  simp only [State.closeFold]
  split
  · rfl
  · split <;> rfl
@[simp] theorem State.closeFold_lck : (s.closeFold).lck = s.lck := by
  simp only [State.closeFold]
  split
  · rfl
  · split <;> rfl
@[simp] theorem State.closeFold_fbm : (s.closeFold).fbm = s.fbm := by
  simp only [State.closeFold]
  split
  · rfl
  · split <;> rfl
@[simp] theorem State.closeFold_freeCount : (s.closeFold).freeCount = s.freeCount := by
  simp only [State.closeFold]
  split
  · rfl
  · split <;> rfl
@[simp] theorem State.closeFold_pending : (s.closeFold).pending = s.pending := by
  simp only [State.closeFold]
  split
  · rfl
  · split <;> rfl

/-! `applyPending` changes pls, syn alone. -/
@[simp] theorem State.applyPending_stc : (s.applyPending).stc = s.stc := by
  simp only [State.applyPending]
  split <;> rfl
@[simp] theorem State.applyPending_ctb : (s.applyPending).ctb = s.ctb := by
  simp only [State.applyPending]
  split <;> rfl
@[simp] theorem State.applyPending_ovl : (s.applyPending).ovl = s.ovl := by
  simp only [State.applyPending]
  split <;> rfl
@[simp] theorem State.applyPending_seq : (s.applyPending).seq = s.seq := by
  simp only [State.applyPending]
  split <;> rfl
@[simp] theorem State.applyPending_jnt : (s.applyPending).jnt = s.jnt := by
  simp only [State.applyPending]
  split <;> rfl
@[simp] theorem State.applyPending_lnk : (s.applyPending).lnk = s.lnk := by
  simp only [State.applyPending]
  split <;> rfl
@[simp] theorem State.applyPending_ptb : (s.applyPending).ptb = s.ptb := by
  simp only [State.applyPending]
  split <;> rfl
@[simp] theorem State.applyPending_lck : (s.applyPending).lck = s.lck := by
  simp only [State.applyPending]
  split <;> rfl
@[simp] theorem State.applyPending_fbm : (s.applyPending).fbm = s.fbm := by
  simp only [State.applyPending]
  split <;> rfl
@[simp] theorem State.applyPending_ftu : (s.applyPending).ftu = s.ftu := by
  simp only [State.applyPending]
  split <;> rfl
@[simp] theorem State.applyPending_freeCount : (s.applyPending).freeCount = s.freeCount := by
  simp only [State.applyPending]
  split <;> rfl
@[simp] theorem State.applyPending_pending : (s.applyPending).pending = s.pending := by
  simp only [State.applyPending]
  split <;> rfl

/-! `countCycle` changes seq, ftu alone. -/
@[simp] theorem State.countCycle_stc (a : Advance) : (s.countCycle a).stc = s.stc := by
  simp only [State.countCycle]
  split <;> rfl
@[simp] theorem State.countCycle_ctb (a : Advance) : (s.countCycle a).ctb = s.ctb := by
  simp only [State.countCycle]
  split <;> rfl
@[simp] theorem State.countCycle_syn (a : Advance) : (s.countCycle a).syn = s.syn := by
  simp only [State.countCycle]
  split <;> rfl
@[simp] theorem State.countCycle_ovl (a : Advance) : (s.countCycle a).ovl = s.ovl := by
  simp only [State.countCycle]
  split <;> rfl
@[simp] theorem State.countCycle_pls (a : Advance) : (s.countCycle a).pls = s.pls := by
  simp only [State.countCycle]
  split <;> rfl
@[simp] theorem State.countCycle_jnt (a : Advance) : (s.countCycle a).jnt = s.jnt := by
  simp only [State.countCycle]
  split <;> rfl
@[simp] theorem State.countCycle_lnk (a : Advance) : (s.countCycle a).lnk = s.lnk := by
  simp only [State.countCycle]
  split <;> rfl
@[simp] theorem State.countCycle_ptb (a : Advance) : (s.countCycle a).ptb = s.ptb := by
  simp only [State.countCycle]
  split <;> rfl
@[simp] theorem State.countCycle_lck (a : Advance) : (s.countCycle a).lck = s.lck := by
  simp only [State.countCycle]
  split <;> rfl
@[simp] theorem State.countCycle_fbm (a : Advance) : (s.countCycle a).fbm = s.fbm := by
  simp only [State.countCycle]
  split <;> rfl
@[simp] theorem State.countCycle_freeCount (a : Advance) : (s.countCycle a).freeCount = s.freeCount := by
  simp only [State.countCycle]
  split <;> rfl
@[simp] theorem State.countCycle_pending (a : Advance) : (s.countCycle a).pending = s.pending := by
  simp only [State.countCycle]
  split <;> rfl

/-! `ownWrap` changes fbm, seq, ftu, pls, syn alone. -/
@[simp] theorem State.ownWrap_stc (x : SampleInputs) : (s.ownWrap x).stc = s.stc := by
  simp [State.ownWrap]
@[simp] theorem State.ownWrap_ctb (x : SampleInputs) : (s.ownWrap x).ctb = s.ctb := by
  simp [State.ownWrap]
@[simp] theorem State.ownWrap_ovl (x : SampleInputs) : (s.ownWrap x).ovl = s.ovl := by
  simp [State.ownWrap]
@[simp] theorem State.ownWrap_jnt (x : SampleInputs) : (s.ownWrap x).jnt = s.jnt := by
  simp [State.ownWrap]
@[simp] theorem State.ownWrap_lnk (x : SampleInputs) : (s.ownWrap x).lnk = s.lnk := by
  simp [State.ownWrap]
@[simp] theorem State.ownWrap_ptb (x : SampleInputs) : (s.ownWrap x).ptb = s.ptb := by
  simp [State.ownWrap]
@[simp] theorem State.ownWrap_lck (x : SampleInputs) : (s.ownWrap x).lck = s.lck := by
  simp [State.ownWrap]
@[simp] theorem State.ownWrap_freeCount (x : SampleInputs) : (s.ownWrap x).freeCount = s.freeCount := by
  simp [State.ownWrap]
@[simp] theorem State.ownWrap_pending (x : SampleInputs) : (s.ownWrap x).pending = s.pending := by
  simp [State.ownWrap]

/-! `freezeRetest` changes seq, lnk alone. -/
@[simp] theorem State.freezeRetest_stc : (s.freezeRetest).stc = s.stc := by
  simp only [State.freezeRetest]
  split
  · split <;> simp
  · rfl
@[simp] theorem State.freezeRetest_ctb : (s.freezeRetest).ctb = s.ctb := by
  simp only [State.freezeRetest]
  split
  · split <;> simp
  · rfl
@[simp] theorem State.freezeRetest_syn : (s.freezeRetest).syn = s.syn := by
  simp only [State.freezeRetest]
  split
  · split <;> simp
  · rfl
@[simp] theorem State.freezeRetest_ovl : (s.freezeRetest).ovl = s.ovl := by
  simp only [State.freezeRetest]
  split
  · split <;> simp
  · rfl
@[simp] theorem State.freezeRetest_pls : (s.freezeRetest).pls = s.pls := by
  simp only [State.freezeRetest]
  split
  · split <;> simp
  · rfl
@[simp] theorem State.freezeRetest_jnt : (s.freezeRetest).jnt = s.jnt := by
  simp only [State.freezeRetest]
  split
  · split <;> simp
  · rfl
@[simp] theorem State.freezeRetest_ptb : (s.freezeRetest).ptb = s.ptb := by
  simp only [State.freezeRetest]
  split
  · split <;> simp
  · rfl
@[simp] theorem State.freezeRetest_lck : (s.freezeRetest).lck = s.lck := by
  simp only [State.freezeRetest]
  split
  · split <;> simp
  · rfl
@[simp] theorem State.freezeRetest_fbm : (s.freezeRetest).fbm = s.fbm := by
  simp only [State.freezeRetest]
  split
  · split <;> simp
  · rfl
@[simp] theorem State.freezeRetest_ftu : (s.freezeRetest).ftu = s.ftu := by
  simp only [State.freezeRetest]
  split
  · split <;> simp
  · rfl
@[simp] theorem State.freezeRetest_freeCount : (s.freezeRetest).freeCount = s.freeCount := by
  simp only [State.freezeRetest]
  split
  · split <;> simp
  · rfl
@[simp] theorem State.freezeRetest_pending : (s.freezeRetest).pending = s.pending := by
  simp only [State.freezeRetest]
  split
  · split <;> simp
  · rfl

/-! `startStep` changes syn, ctb, ovl, ftu, jnt, seq, lnk alone. -/
@[simp] theorem State.startStep_stc (a : Advance) (r : StepRecord) : (s.startStep a r).stc = s.stc := by
  simp [State.startStep]
@[simp] theorem State.startStep_pls (a : Advance) (r : StepRecord) : (s.startStep a r).pls = s.pls := by
  simp [State.startStep]
@[simp] theorem State.startStep_ptb (a : Advance) (r : StepRecord) : (s.startStep a r).ptb = s.ptb := by
  simp [State.startStep]
@[simp] theorem State.startStep_lck (a : Advance) (r : StepRecord) : (s.startStep a r).lck = s.lck := by
  simp [State.startStep]
@[simp] theorem State.startStep_fbm (a : Advance) (r : StepRecord) : (s.startStep a r).fbm = s.fbm := by
  simp [State.startStep]
@[simp] theorem State.startStep_freeCount (a : Advance) (r : StepRecord) : (s.startStep a r).freeCount = s.freeCount := by
  simp [State.startStep]
@[simp] theorem State.startStep_pending (a : Advance) (r : StepRecord) : (s.startStep a r).pending = s.pending := by
  simp [State.startStep]

/-! `seqProgress` changes seq, jnt, lnk alone. -/
@[simp] theorem State.seqProgress_stc (a : Advance) : (s.seqProgress a).stc = s.stc := by
  simp only [State.seqProgress]
  split
  · rfl
  · split
    · simp
    · split
      · split <;> simp
      · rfl
    · rfl
@[simp] theorem State.seqProgress_ctb (a : Advance) : (s.seqProgress a).ctb = s.ctb := by
  simp only [State.seqProgress]
  split
  · rfl
  · split
    · simp
    · split
      · split <;> simp
      · rfl
    · rfl
@[simp] theorem State.seqProgress_syn (a : Advance) : (s.seqProgress a).syn = s.syn := by
  simp only [State.seqProgress]
  split
  · rfl
  · split
    · simp
    · split
      · split <;> simp
      · rfl
    · rfl
@[simp] theorem State.seqProgress_ovl (a : Advance) : (s.seqProgress a).ovl = s.ovl := by
  simp only [State.seqProgress]
  split
  · rfl
  · split
    · simp
    · split
      · split <;> simp
      · rfl
    · rfl
@[simp] theorem State.seqProgress_pls (a : Advance) : (s.seqProgress a).pls = s.pls := by
  simp only [State.seqProgress]
  split
  · rfl
  · split
    · simp
    · split
      · split <;> simp
      · rfl
    · rfl
@[simp] theorem State.seqProgress_ptb (a : Advance) : (s.seqProgress a).ptb = s.ptb := by
  simp only [State.seqProgress]
  split
  · rfl
  · split
    · simp
    · split
      · split <;> simp
      · rfl
    · rfl
@[simp] theorem State.seqProgress_lck (a : Advance) : (s.seqProgress a).lck = s.lck := by
  simp only [State.seqProgress]
  split
  · rfl
  · split
    · simp
    · split
      · split <;> simp
      · rfl
    · rfl
@[simp] theorem State.seqProgress_fbm (a : Advance) : (s.seqProgress a).fbm = s.fbm := by
  simp only [State.seqProgress]
  split
  · rfl
  · split
    · simp
    · split
      · split <;> simp
      · rfl
    · rfl
@[simp] theorem State.seqProgress_ftu (a : Advance) : (s.seqProgress a).ftu = s.ftu := by
  simp only [State.seqProgress]
  split
  · rfl
  · split
    · simp
    · split
      · split <;> simp
      · rfl
    · rfl
@[simp] theorem State.seqProgress_freeCount (a : Advance) : (s.seqProgress a).freeCount = s.freeCount := by
  simp only [State.seqProgress]
  split
  · rfl
  · split
    · simp
    · split
      · split <;> simp
      · rfl
    · rfl
@[simp] theorem State.seqProgress_pending (a : Advance) : (s.seqProgress a).pending = s.pending := by
  simp only [State.seqProgress]
  split
  · rfl
  · split
    · simp
    · split
      · split <;> simp
      · rfl
    · rfl

/-! `rampProgress` changes syn, ctb alone. -/
@[simp] theorem State.rampProgress_stc : (s.rampProgress).stc = s.stc := by
  rfl
@[simp] theorem State.rampProgress_ovl : (s.rampProgress).ovl = s.ovl := by
  rfl
@[simp] theorem State.rampProgress_pls : (s.rampProgress).pls = s.pls := by
  rfl
@[simp] theorem State.rampProgress_seq : (s.rampProgress).seq = s.seq := by
  rfl
@[simp] theorem State.rampProgress_jnt : (s.rampProgress).jnt = s.jnt := by
  rfl
@[simp] theorem State.rampProgress_lnk : (s.rampProgress).lnk = s.lnk := by
  rfl
@[simp] theorem State.rampProgress_ptb : (s.rampProgress).ptb = s.ptb := by
  rfl
@[simp] theorem State.rampProgress_lck : (s.rampProgress).lck = s.lck := by
  rfl
@[simp] theorem State.rampProgress_fbm : (s.rampProgress).fbm = s.fbm := by
  rfl
@[simp] theorem State.rampProgress_ftu : (s.rampProgress).ftu = s.ftu := by
  rfl
@[simp] theorem State.rampProgress_freeCount : (s.rampProgress).freeCount = s.freeCount := by
  rfl
@[simp] theorem State.rampProgress_pending : (s.rampProgress).pending = s.pending := by
  rfl

/-! `stepWork` changes syn, ctb, ovl, ftu, jnt, seq, lnk alone. -/
@[simp] theorem State.stepWork_stc (a : Advance) : (s.stepWork a).stc = s.stc := by
  simp only [State.stepWork]
  split <;> simp
@[simp] theorem State.stepWork_pls (a : Advance) : (s.stepWork a).pls = s.pls := by
  simp only [State.stepWork]
  split <;> simp
@[simp] theorem State.stepWork_ptb (a : Advance) : (s.stepWork a).ptb = s.ptb := by
  simp only [State.stepWork]
  split <;> simp
@[simp] theorem State.stepWork_lck (a : Advance) : (s.stepWork a).lck = s.lck := by
  simp only [State.stepWork]
  split <;> simp
@[simp] theorem State.stepWork_fbm (a : Advance) : (s.stepWork a).fbm = s.fbm := by
  simp only [State.stepWork]
  split <;> simp
@[simp] theorem State.stepWork_freeCount (a : Advance) : (s.stepWork a).freeCount = s.freeCount := by
  simp only [State.stepWork]
  split <;> simp
@[simp] theorem State.stepWork_pending (a : Advance) : (s.stepWork a).pending = s.pending := by
  simp only [State.stepWork]
  split <;> simp

/-! `withheldWork` changes syn, ctb, ovl alone. -/
@[simp] theorem State.withheldWork_stc : (s.withheldWork).stc = s.stc := by
  simp [State.withheldWork]
@[simp] theorem State.withheldWork_pls : (s.withheldWork).pls = s.pls := by
  simp [State.withheldWork]
@[simp] theorem State.withheldWork_seq : (s.withheldWork).seq = s.seq := by
  simp [State.withheldWork]
@[simp] theorem State.withheldWork_jnt : (s.withheldWork).jnt = s.jnt := by
  simp [State.withheldWork]
@[simp] theorem State.withheldWork_lnk : (s.withheldWork).lnk = s.lnk := by
  simp [State.withheldWork]
@[simp] theorem State.withheldWork_ptb : (s.withheldWork).ptb = s.ptb := by
  simp [State.withheldWork]
@[simp] theorem State.withheldWork_lck : (s.withheldWork).lck = s.lck := by
  simp [State.withheldWork]
@[simp] theorem State.withheldWork_fbm : (s.withheldWork).fbm = s.fbm := by
  simp [State.withheldWork]
@[simp] theorem State.withheldWork_ftu : (s.withheldWork).ftu = s.ftu := by
  simp [State.withheldWork]
@[simp] theorem State.withheldWork_freeCount : (s.withheldWork).freeCount = s.freeCount := by
  simp [State.withheldWork]
@[simp] theorem State.withheldWork_pending : (s.withheldWork).pending = s.pending := by
  simp [State.withheldWork]

/-! `lossThenWork` changes ctb, freeCount, ftu, jnt, lck, lnk, ovl, pls, ptb, seq, syn alone. -/
@[simp] theorem State.lossThenWork_stc (a : Advance) : (s.lossThenWork a).stc = s.stc := by
  simp only [State.lossThenWork]
  split <;> simp
@[simp] theorem State.lossThenWork_fbm (a : Advance) : (s.lossThenWork a).fbm = s.fbm := by
  simp only [State.lossThenWork]
  split <;> simp
@[simp] theorem State.lossThenWork_pending (a : Advance) : (s.lossThenWork a).pending = s.pending := by
  simp only [State.lossThenWork]
  split <;> simp

/-! `workAndLosses` changes ctb, freeCount, ftu, jnt, lck, lnk, ovl, pls, ptb, seq, syn alone. -/
@[simp] theorem State.workAndLosses_stc (a : Advance) : (s.workAndLosses a).stc = s.stc := by
  simp only [State.workAndLosses]
  split
  · split <;> simp
  · simp
@[simp] theorem State.workAndLosses_fbm (a : Advance) : (s.workAndLosses a).fbm = s.fbm := by
  simp only [State.workAndLosses]
  split
  · split <;> simp
  · simp
@[simp] theorem State.workAndLosses_pending (a : Advance) : (s.workAndLosses a).pending = s.pending := by
  simp only [State.workAndLosses]
  split
  · split <;> simp
  · simp

/-! `orderedWork` changes ctb, freeCount, ftu, jnt, lck, lnk, ovl, pls, ptb, seq, syn alone. -/
@[simp] theorem State.orderedWork_stc (a : Advance) : (s.orderedWork a).stc = s.stc := by
  simp only [State.orderedWork]
  split
  · split <;> simp
  · simp
@[simp] theorem State.orderedWork_fbm (a : Advance) : (s.orderedWork a).fbm = s.fbm := by
  simp only [State.orderedWork]
  split
  · split <;> simp
  · simp
@[simp] theorem State.orderedWork_pending (a : Advance) : (s.orderedWork a).pending = s.pending := by
  simp only [State.orderedWork]
  split
  · split <;> simp
  · simp

/-! `present` changes syn alone. -/
@[simp] theorem State.present_stc (t : Phase) : (s.present t).stc = s.stc := by
  rfl
@[simp] theorem State.present_ctb (t : Phase) : (s.present t).ctb = s.ctb := by
  rfl
@[simp] theorem State.present_ovl (t : Phase) : (s.present t).ovl = s.ovl := by
  rfl
@[simp] theorem State.present_pls (t : Phase) : (s.present t).pls = s.pls := by
  rfl
@[simp] theorem State.present_seq (t : Phase) : (s.present t).seq = s.seq := by
  rfl
@[simp] theorem State.present_jnt (t : Phase) : (s.present t).jnt = s.jnt := by
  rfl
@[simp] theorem State.present_lnk (t : Phase) : (s.present t).lnk = s.lnk := by
  rfl
@[simp] theorem State.present_ptb (t : Phase) : (s.present t).ptb = s.ptb := by
  rfl
@[simp] theorem State.present_lck (t : Phase) : (s.present t).lck = s.lck := by
  rfl
@[simp] theorem State.present_fbm (t : Phase) : (s.present t).fbm = s.fbm := by
  rfl
@[simp] theorem State.present_ftu (t : Phase) : (s.present t).ftu = s.ftu := by
  rfl
@[simp] theorem State.present_freeCount (t : Phase) : (s.present t).freeCount = s.freeCount := by
  rfl
@[simp] theorem State.present_pending (t : Phase) : (s.present t).pending = s.pending := by
  rfl

/-! `feedback` changes fbm, ftu alone. -/
@[simp] theorem State.feedback_stc (x : SampleInputs) : (s.feedback x).stc = s.stc := by
  simp only [State.feedback]
  split <;> rfl
@[simp] theorem State.feedback_ctb (x : SampleInputs) : (s.feedback x).ctb = s.ctb := by
  simp only [State.feedback]
  split <;> rfl
@[simp] theorem State.feedback_syn (x : SampleInputs) : (s.feedback x).syn = s.syn := by
  simp only [State.feedback]
  split <;> rfl
@[simp] theorem State.feedback_ovl (x : SampleInputs) : (s.feedback x).ovl = s.ovl := by
  simp only [State.feedback]
  split <;> rfl
@[simp] theorem State.feedback_pls (x : SampleInputs) : (s.feedback x).pls = s.pls := by
  simp only [State.feedback]
  split <;> rfl
@[simp] theorem State.feedback_seq (x : SampleInputs) : (s.feedback x).seq = s.seq := by
  simp only [State.feedback]
  split <;> rfl
@[simp] theorem State.feedback_jnt (x : SampleInputs) : (s.feedback x).jnt = s.jnt := by
  simp only [State.feedback]
  split <;> rfl
@[simp] theorem State.feedback_lnk (x : SampleInputs) : (s.feedback x).lnk = s.lnk := by
  simp only [State.feedback]
  split <;> rfl
@[simp] theorem State.feedback_ptb (x : SampleInputs) : (s.feedback x).ptb = s.ptb := by
  simp only [State.feedback]
  split <;> rfl
@[simp] theorem State.feedback_lck (x : SampleInputs) : (s.feedback x).lck = s.lck := by
  simp only [State.feedback]
  split <;> rfl
@[simp] theorem State.feedback_freeCount (x : SampleInputs) : (s.feedback x).freeCount = s.freeCount := by
  simp only [State.feedback]
  split <;> rfl
@[simp] theorem State.feedback_pending (x : SampleInputs) : (s.feedback x).pending = s.pending := by
  simp only [State.feedback]
  split <;> rfl

/-! `sample` changes ctb, syn, ovl, pls, seq, jnt, lnk, ptb, lck, fbm, ftu, freeCount alone. -/
@[simp] theorem State.sample_stc (x : SampleInputs) : (s.sample x).stc = s.stc := by
  simp only [State.sample]
  split <;> split <;> simp
@[simp] theorem State.sample_pending (x : SampleInputs) : (s.sample x).pending = s.pending := by
  simp only [State.sample]
  split <;> split <;> simp

end Sys2Proof.Machine
end

