-- ==== Sys2Proof/Laws/Due.lean ====
section
/-! SUPPORT. What each due event leaves alone, field by field. -/

set_option Elab.async false

namespace Sys2Proof.Machine

variable (s : State)

/-! `endStep` changes ctb, jnt, lnk, ovl, pls, seq, syn alone. -/
@[simp] theorem State.endStep_stc (r : StepRecord) : (s.endStep r).stc = s.stc := by
  simp only [State.endStep]
  split <;> simp
@[simp] theorem State.endStep_ptb (r : StepRecord) : (s.endStep r).ptb = s.ptb := by
  simp only [State.endStep]
  split <;> simp
@[simp] theorem State.endStep_lck (r : StepRecord) : (s.endStep r).lck = s.lck := by
  simp only [State.endStep]
  split <;> simp
@[simp] theorem State.endStep_fbm (r : StepRecord) : (s.endStep r).fbm = s.fbm := by
  simp only [State.endStep]
  split <;> simp
@[simp] theorem State.endStep_ftu (r : StepRecord) : (s.endStep r).ftu = s.ftu := by
  simp only [State.endStep]
  split <;> simp
@[simp] theorem State.endStep_freeCount (r : StepRecord) : (s.endStep r).freeCount = s.freeCount := by
  simp only [State.endStep]
  split <;> simp
@[simp] theorem State.endStep_pending (r : StepRecord) : (s.endStep r).pending = s.pending := by
  simp only [State.endStep]
  split <;> simp

/-! `carryStepEnd` changes ctb, jnt, lnk, ovl, pls, seq, syn alone. -/
@[simp] theorem State.carryStepEnd_stc : (s.carryStepEnd).stc = s.stc := by
  simp only [State.carryStepEnd]
  split <;> simp
@[simp] theorem State.carryStepEnd_ptb : (s.carryStepEnd).ptb = s.ptb := by
  simp only [State.carryStepEnd]
  split <;> simp
@[simp] theorem State.carryStepEnd_lck : (s.carryStepEnd).lck = s.lck := by
  simp only [State.carryStepEnd]
  split <;> simp
@[simp] theorem State.carryStepEnd_fbm : (s.carryStepEnd).fbm = s.fbm := by
  simp only [State.carryStepEnd]
  split <;> simp
@[simp] theorem State.carryStepEnd_ftu : (s.carryStepEnd).ftu = s.ftu := by
  simp only [State.carryStepEnd]
  split <;> simp
@[simp] theorem State.carryStepEnd_freeCount : (s.carryStepEnd).freeCount = s.freeCount := by
  simp only [State.carryStepEnd]
  split <;> simp
@[simp] theorem State.carryStepEnd_pending : (s.carryStepEnd).pending = s.pending := by
  simp only [State.carryStepEnd]
  split <;> simp

/-! `carryMarkerLimit` changes ctb, jnt, lnk, ovl, pls, seq, syn alone. -/
@[simp] theorem State.carryMarkerLimit_stc : (s.carryMarkerLimit).stc = s.stc := by
  simp only [State.carryMarkerLimit]
  split <;> simp
@[simp] theorem State.carryMarkerLimit_ptb : (s.carryMarkerLimit).ptb = s.ptb := by
  simp only [State.carryMarkerLimit]
  split <;> simp
@[simp] theorem State.carryMarkerLimit_lck : (s.carryMarkerLimit).lck = s.lck := by
  simp only [State.carryMarkerLimit]
  split <;> simp
@[simp] theorem State.carryMarkerLimit_fbm : (s.carryMarkerLimit).fbm = s.fbm := by
  simp only [State.carryMarkerLimit]
  split <;> simp
@[simp] theorem State.carryMarkerLimit_ftu : (s.carryMarkerLimit).ftu = s.ftu := by
  simp only [State.carryMarkerLimit]
  split <;> simp
@[simp] theorem State.carryMarkerLimit_freeCount : (s.carryMarkerLimit).freeCount = s.freeCount := by
  simp only [State.carryMarkerLimit]
  split <;> simp
@[simp] theorem State.carryMarkerLimit_pending : (s.carryMarkerLimit).pending = s.pending := by
  simp only [State.carryMarkerLimit]
  split <;> simp

/-! `carryOwnTrip` changes ctb, jnt, lnk, ovl, pls, seq, syn, ftu alone. -/
@[simp] theorem State.carryOwnTrip_stc : (s.carryOwnTrip).stc = s.stc := by
  simp only [State.carryOwnTrip]
  split <;> simp
@[simp] theorem State.carryOwnTrip_ptb : (s.carryOwnTrip).ptb = s.ptb := by
  simp only [State.carryOwnTrip]
  split <;> simp
@[simp] theorem State.carryOwnTrip_lck : (s.carryOwnTrip).lck = s.lck := by
  simp only [State.carryOwnTrip]
  split <;> simp
@[simp] theorem State.carryOwnTrip_fbm : (s.carryOwnTrip).fbm = s.fbm := by
  simp only [State.carryOwnTrip]
  split <;> simp
@[simp] theorem State.carryOwnTrip_freeCount : (s.carryOwnTrip).freeCount = s.freeCount := by
  simp only [State.carryOwnTrip]
  split <;> simp
@[simp] theorem State.carryOwnTrip_pending : (s.carryOwnTrip).pending = s.pending := by
  simp only [State.carryOwnTrip]
  split <;> simp

/-! `carryTimeout` changes lnk, jnt alone. -/
@[simp] theorem State.carryTimeout_stc : (s.carryTimeout).stc = s.stc := by
  simp only [State.carryTimeout]
  split <;> simp
@[simp] theorem State.carryTimeout_ctb : (s.carryTimeout).ctb = s.ctb := by
  simp only [State.carryTimeout]
  split <;> simp
@[simp] theorem State.carryTimeout_syn : (s.carryTimeout).syn = s.syn := by
  simp only [State.carryTimeout]
  split <;> simp
@[simp] theorem State.carryTimeout_ovl : (s.carryTimeout).ovl = s.ovl := by
  simp only [State.carryTimeout]
  split <;> simp
@[simp] theorem State.carryTimeout_pls : (s.carryTimeout).pls = s.pls := by
  simp only [State.carryTimeout]
  split <;> simp
@[simp] theorem State.carryTimeout_seq : (s.carryTimeout).seq = s.seq := by
  simp only [State.carryTimeout]
  split <;> simp
@[simp] theorem State.carryTimeout_ptb : (s.carryTimeout).ptb = s.ptb := by
  simp only [State.carryTimeout]
  split <;> simp
@[simp] theorem State.carryTimeout_lck : (s.carryTimeout).lck = s.lck := by
  simp only [State.carryTimeout]
  split <;> simp
@[simp] theorem State.carryTimeout_fbm : (s.carryTimeout).fbm = s.fbm := by
  simp only [State.carryTimeout]
  split <;> simp
@[simp] theorem State.carryTimeout_ftu : (s.carryTimeout).ftu = s.ftu := by
  simp only [State.carryTimeout]
  split <;> simp
@[simp] theorem State.carryTimeout_freeCount : (s.carryTimeout).freeCount = s.freeCount := by
  simp only [State.carryTimeout]
  split <;> simp
@[simp] theorem State.carryTimeout_pending : (s.carryTimeout).pending = s.pending := by
  simp only [State.carryTimeout]
  split <;> simp

/-! `carryLevelRampEnd` changes syn alone. -/
@[simp] theorem State.carryLevelRampEnd_stc : (s.carryLevelRampEnd).stc = s.stc := by
  simp only [State.carryLevelRampEnd]
  split <;> rfl
@[simp] theorem State.carryLevelRampEnd_ctb : (s.carryLevelRampEnd).ctb = s.ctb := by
  simp only [State.carryLevelRampEnd]
  split <;> rfl
@[simp] theorem State.carryLevelRampEnd_ovl : (s.carryLevelRampEnd).ovl = s.ovl := by
  simp only [State.carryLevelRampEnd]
  split <;> rfl
@[simp] theorem State.carryLevelRampEnd_pls : (s.carryLevelRampEnd).pls = s.pls := by
  simp only [State.carryLevelRampEnd]
  split <;> rfl
@[simp] theorem State.carryLevelRampEnd_seq : (s.carryLevelRampEnd).seq = s.seq := by
  simp only [State.carryLevelRampEnd]
  split <;> rfl
@[simp] theorem State.carryLevelRampEnd_jnt : (s.carryLevelRampEnd).jnt = s.jnt := by
  simp only [State.carryLevelRampEnd]
  split <;> rfl
@[simp] theorem State.carryLevelRampEnd_lnk : (s.carryLevelRampEnd).lnk = s.lnk := by
  simp only [State.carryLevelRampEnd]
  split <;> rfl
@[simp] theorem State.carryLevelRampEnd_ptb : (s.carryLevelRampEnd).ptb = s.ptb := by
  simp only [State.carryLevelRampEnd]
  split <;> rfl
@[simp] theorem State.carryLevelRampEnd_lck : (s.carryLevelRampEnd).lck = s.lck := by
  simp only [State.carryLevelRampEnd]
  split <;> rfl
@[simp] theorem State.carryLevelRampEnd_fbm : (s.carryLevelRampEnd).fbm = s.fbm := by
  simp only [State.carryLevelRampEnd]
  split <;> rfl
@[simp] theorem State.carryLevelRampEnd_ftu : (s.carryLevelRampEnd).ftu = s.ftu := by
  simp only [State.carryLevelRampEnd]
  split <;> rfl
@[simp] theorem State.carryLevelRampEnd_freeCount : (s.carryLevelRampEnd).freeCount = s.freeCount := by
  simp only [State.carryLevelRampEnd]
  split <;> rfl
@[simp] theorem State.carryLevelRampEnd_pending : (s.carryLevelRampEnd).pending = s.pending := by
  simp only [State.carryLevelRampEnd]
  split <;> rfl

/-! `carryFrequencyRampEnd` changes ctb alone. -/
@[simp] theorem State.carryFrequencyRampEnd_stc : (s.carryFrequencyRampEnd).stc = s.stc := by
  simp only [State.carryFrequencyRampEnd]
  split <;> rfl
@[simp] theorem State.carryFrequencyRampEnd_syn : (s.carryFrequencyRampEnd).syn = s.syn := by
  simp only [State.carryFrequencyRampEnd]
  split <;> rfl
@[simp] theorem State.carryFrequencyRampEnd_ovl : (s.carryFrequencyRampEnd).ovl = s.ovl := by
  simp only [State.carryFrequencyRampEnd]
  split <;> rfl
@[simp] theorem State.carryFrequencyRampEnd_pls : (s.carryFrequencyRampEnd).pls = s.pls := by
  simp only [State.carryFrequencyRampEnd]
  split <;> rfl
@[simp] theorem State.carryFrequencyRampEnd_seq : (s.carryFrequencyRampEnd).seq = s.seq := by
  simp only [State.carryFrequencyRampEnd]
  split <;> rfl
@[simp] theorem State.carryFrequencyRampEnd_jnt : (s.carryFrequencyRampEnd).jnt = s.jnt := by
  simp only [State.carryFrequencyRampEnd]
  split <;> rfl
@[simp] theorem State.carryFrequencyRampEnd_lnk : (s.carryFrequencyRampEnd).lnk = s.lnk := by
  simp only [State.carryFrequencyRampEnd]
  split <;> rfl
@[simp] theorem State.carryFrequencyRampEnd_ptb : (s.carryFrequencyRampEnd).ptb = s.ptb := by
  simp only [State.carryFrequencyRampEnd]
  split <;> rfl
@[simp] theorem State.carryFrequencyRampEnd_lck : (s.carryFrequencyRampEnd).lck = s.lck := by
  simp only [State.carryFrequencyRampEnd]
  split <;> rfl
@[simp] theorem State.carryFrequencyRampEnd_fbm : (s.carryFrequencyRampEnd).fbm = s.fbm := by
  simp only [State.carryFrequencyRampEnd]
  split <;> rfl
@[simp] theorem State.carryFrequencyRampEnd_ftu : (s.carryFrequencyRampEnd).ftu = s.ftu := by
  simp only [State.carryFrequencyRampEnd]
  split <;> rfl
@[simp] theorem State.carryFrequencyRampEnd_freeCount : (s.carryFrequencyRampEnd).freeCount = s.freeCount := by
  simp only [State.carryFrequencyRampEnd]
  split <;> rfl
@[simp] theorem State.carryFrequencyRampEnd_pending : (s.carryFrequencyRampEnd).pending = s.pending := by
  simp only [State.carryFrequencyRampEnd]
  split <;> rfl

/-! `carrySafeEnd` changes syn, ftu alone. -/
@[simp] theorem State.carrySafeEnd_stc : (s.carrySafeEnd).stc = s.stc := by
  simp only [State.carrySafeEnd]
  split <;> rfl
@[simp] theorem State.carrySafeEnd_ctb : (s.carrySafeEnd).ctb = s.ctb := by
  simp only [State.carrySafeEnd]
  split <;> rfl
@[simp] theorem State.carrySafeEnd_ovl : (s.carrySafeEnd).ovl = s.ovl := by
  simp only [State.carrySafeEnd]
  split <;> rfl
@[simp] theorem State.carrySafeEnd_pls : (s.carrySafeEnd).pls = s.pls := by
  simp only [State.carrySafeEnd]
  split <;> rfl
@[simp] theorem State.carrySafeEnd_seq : (s.carrySafeEnd).seq = s.seq := by
  simp only [State.carrySafeEnd]
  split <;> rfl
@[simp] theorem State.carrySafeEnd_jnt : (s.carrySafeEnd).jnt = s.jnt := by
  simp only [State.carrySafeEnd]
  split <;> rfl
@[simp] theorem State.carrySafeEnd_lnk : (s.carrySafeEnd).lnk = s.lnk := by
  simp only [State.carrySafeEnd]
  split <;> rfl
@[simp] theorem State.carrySafeEnd_ptb : (s.carrySafeEnd).ptb = s.ptb := by
  simp only [State.carrySafeEnd]
  split <;> rfl
@[simp] theorem State.carrySafeEnd_lck : (s.carrySafeEnd).lck = s.lck := by
  simp only [State.carrySafeEnd]
  split <;> rfl
@[simp] theorem State.carrySafeEnd_fbm : (s.carrySafeEnd).fbm = s.fbm := by
  simp only [State.carrySafeEnd]
  split <;> rfl
@[simp] theorem State.carrySafeEnd_freeCount : (s.carrySafeEnd).freeCount = s.freeCount := by
  simp only [State.carrySafeEnd]
  split <;> rfl
@[simp] theorem State.carrySafeEnd_pending : (s.carrySafeEnd).pending = s.pending := by
  simp only [State.carrySafeEnd]
  split <;> rfl

/-! `settleEnds` changes ctb, jnt, lnk, ovl, pls, seq, syn, ftu, freeCount alone. -/
@[simp] theorem State.settleEnds_stc : (s.settleEnds).stc = s.stc := by
  simp only [State.settleEnds, State.eitherOrder]
  split
  · split <;> simp
  · simp
@[simp] theorem State.settleEnds_ptb : (s.settleEnds).ptb = s.ptb := by
  simp only [State.settleEnds, State.eitherOrder]
  split
  · split <;> simp
  · simp
@[simp] theorem State.settleEnds_lck : (s.settleEnds).lck = s.lck := by
  simp only [State.settleEnds, State.eitherOrder]
  split
  · split <;> simp
  · simp
@[simp] theorem State.settleEnds_fbm : (s.settleEnds).fbm = s.fbm := by
  simp only [State.settleEnds, State.eitherOrder]
  split
  · split <;> simp
  · simp
@[simp] theorem State.settleEnds_pending : (s.settleEnds).pending = s.pending := by
  simp only [State.settleEnds, State.eitherOrder]
  split
  · split <;> simp
  · simp

/-! `settleWraps` changes ctb, jnt, lnk, ovl, pls, seq, syn, ftu, freeCount, ptb, lck alone. -/
@[simp] theorem State.settleWraps_stc : (s.settleWraps).stc = s.stc := by
  simp only [State.settleWraps, State.eitherOrder]
  split
  · split <;> simp
  · simp
@[simp] theorem State.settleWraps_fbm : (s.settleWraps).fbm = s.fbm := by
  simp only [State.settleWraps, State.eitherOrder]
  split
  · split <;> simp
  · simp
@[simp] theorem State.settleWraps_pending : (s.settleWraps).pending = s.pending := by
  simp only [State.settleWraps, State.eitherOrder]
  split
  · split <;> simp
  · simp

/-! `settle` changes ctb, jnt, lnk, ovl, pls, seq, syn, ftu, freeCount, ptb, lck alone. -/
@[simp] theorem State.settle_stc : (s.settle).stc = s.stc := by
  simp only [State.settle]
  split <;> simp
@[simp] theorem State.settle_fbm : (s.settle).fbm = s.fbm := by
  simp only [State.settle]
  split <;> simp
@[simp] theorem State.settle_pending : (s.settle).pending = s.pending := by
  simp only [State.settle]
  split <;> simp

end Sys2Proof.Machine
end

