-- ==== Sys2Proof/Laws/Order.lean ====
section
/-! SUPPORT. What SEQ's work of a sample comes to when a trip or a loss falls on the same sample (R49, R91, R155,
R164). -/

namespace Sys2Proof.Machine

variable (s : State) (a : Advance)

/-- A drawn order changes the count of drawn orders alone. -/
theorem State.countOrder_eq : s.countOrder = s.setFreeCount (s.freeCount + 1) := rfl

/-- With no trip and no loss that may come before it, SEQ's work of the sample is all there is, and no order is
drawn. -/
theorem State.orderedWork_of_undisputed (h : s.tripMeetsWork a = false) (k : s.lossMeetsWork = false) :
    s.orderedWork a = s.stepWork a := by
  simp [State.orderedWork, State.workAndLosses, h, k]

/-- When a sample ends the step in effect by its duration. -/
theorem State.endsOn_iff :
    s.endsOn a = true ↔ s.seq.state = .active ∧ ¬ (s.seq.retest = true ∧ s.troubled = true)
      ∧ ∃ r, s.seq.image = some r ∧ r.count ≤ s.progressAfter a r := by
  unfold State.endsOn
  cases h : s.seq.image <;> cases s.seq.retest <;> simp [and_assoc]

/-- An own trip of a step in effect that the sample does not end comes after SEQ's work of the sample (R151). -/
theorem State.tripMeetsWork_of_not_ending (h : s.inEffect = true) (k : s.endsOn a = false) :
    s.tripMeetsWork a = false := by
  simp only [State.inEffect, Bool.and_eq_true, Bool.or_eq_true, decide_eq_true_eq] at h
  rcases h.1 with h | h <;> simp [State.tripMeetsWork, h, k]

/-- A sample on which a trip and a loss may fall together with SEQ's work is, but for the count of drawn orders, the
work, the work withheld for a trip, or the losses, the lock evaluation and then the work. -/
theorem State.orderedWork_cases :
    ∃ n, s.orderedWork a = (s.setFreeCount n).stepWork a
      ∨ (s.tripMeetsWork a = true ∧ s.orderedWork a = (s.setFreeCount n).withheldWork)
      ∨ (s.lossMeetsWork = true ∧ s.policyInForce = .follow ∧ s.orderedWork a = (s.setFreeCount n).withheldWork)
      ∨ (s.lossMeetsWork = true ∧ s.policyInForce ≠ .follow
          ∧ s.orderedWork a = (s.setFreeCount n).carryLosses.carryEvaluation.stepWork a) := by
  have works (m : Nat) : ∃ n, (s.setFreeCount m).workAndLosses a = (s.setFreeCount n).stepWork a
      ∨ (s.lossMeetsWork = true ∧ s.policyInForce = .follow
          ∧ (s.setFreeCount m).workAndLosses a = (s.setFreeCount n).withheldWork)
      ∨ (s.lossMeetsWork = true ∧ s.policyInForce ≠ .follow
          ∧ (s.setFreeCount m).workAndLosses a = (s.setFreeCount n).carryLosses.carryEvaluation.stepWork a) := by
    have same : (s.setFreeCount m).lossMeetsWork = s.lossMeetsWork := rfl
    simp only [State.workAndLosses, same]
    split
    next h =>
      split
      · simp only [State.lossThenWork]
        split
        next p => exact ⟨m + 1, .inr (.inl ⟨h, p, rfl⟩)⟩
        next p => exact ⟨m + 1, .inr (.inr ⟨h, p, rfl⟩)⟩
      · exact ⟨m + 1, .inl rfl⟩
    · exact ⟨m, .inl rfl⟩
  simp only [State.orderedWork]
  split
  next h =>
    split
    · exact ⟨s.freeCount + 1, .inr (.inl ⟨h, rfl⟩)⟩
    · obtain ⟨n, k | k | k⟩ := works (s.freeCount + 1)
      · exact ⟨n, .inl k⟩
      · exact ⟨n, .inr (.inr (.inl k))⟩
      · exact ⟨n, .inr (.inr (.inr k))⟩
  · obtain ⟨n, k | k | k⟩ := works s.freeCount
    · exact ⟨n, .inl k⟩
    · exact ⟨n, .inr (.inr (.inl k))⟩
    · exact ⟨n, .inr (.inr (.inr k))⟩

end Sys2Proof.Machine
end

