-- ==== Sys2Proof/Laws/Queue.lean ====
section
/-! SUPPORT. What each operation on the transmit queue can do: the fields it leaves alone, and the entries it
leaves in the queue. -/

set_option Elab.async false

namespace Sys2Proof.Machine

/-! `Lnk.enter` changes queue, txDrop alone. -/
@[simp] theorem Lnk.enter_lineIdle (l : Lnk) (f : List TxEntry → TxEntry → List TxEntry) (e : TxEntry) :
    (l.enter f e).lineIdle = l.lineIdle := by
  unfold Lnk.enter
  split
  · rfl
  · split <;> rfl
@[simp] theorem Lnk.enter_recessive (l : Lnk) (f : List TxEntry → TxEntry → List TxEntry) (e : TxEntry) :
    (l.enter f e).recessive = l.recessive := by
  unfold Lnk.enter
  split
  · rfl
  · split <;> rfl
@[simp] theorem Lnk.enter_nextOrder (l : Lnk) (f : List TxEntry → TxEntry → List TxEntry) (e : TxEntry) :
    (l.enter f e).nextOrder = l.nextOrder := by
  unfold Lnk.enter
  split
  · rfl
  · split <;> rfl
@[simp] theorem Lnk.enter_shifter (l : Lnk) (f : List TxEntry → TxEntry → List TxEntry) (e : TxEntry) :
    (l.enter f e).shifter = l.shifter := by
  unfold Lnk.enter
  split
  · rfl
  · split <;> rfl
@[simp] theorem Lnk.enter_assembling (l : Lnk) (f : List TxEntry → TxEntry → List TxEntry) (e : TxEntry) :
    (l.enter f e).assembling = l.assembling := by
  unfold Lnk.enter
  split
  · rfl
  · split <;> rfl
@[simp] theorem Lnk.enter_ownAborted (l : Lnk) (f : List TxEntry → TxEntry → List TxEntry) (e : TxEntry) :
    (l.enter f e).ownAborted = l.ownAborted := by
  unfold Lnk.enter
  split
  · rfl
  · split <;> rfl
@[simp] theorem Lnk.enter_latch (l : Lnk) (f : List TxEntry → TxEntry → List TxEntry) (e : TxEntry) :
    (l.enter f e).latch = l.latch := by
  unfold Lnk.enter
  split
  · rfl
  · split <;> rfl
@[simp] theorem Lnk.enter_checkErrors (l : Lnk) (f : List TxEntry → TxEntry → List TxEntry) (e : TxEntry) :
    (l.enter f e).checkErrors = l.checkErrors := by
  unfold Lnk.enter
  split
  · rfl
  · split <;> rfl
@[simp] theorem Lnk.enter_collisions (l : Lnk) (f : List TxEntry → TxEntry → List TxEntry) (e : TxEntry) :
    (l.enter f e).collisions = l.collisions := by
  unfold Lnk.enter
  split
  · rfl
  · split <;> rfl
@[simp] theorem Lnk.enter_rxCheck (l : Lnk) (f : List TxEntry → TxEntry → List TxEntry) (e : TxEntry) :
    (l.enter f e).rxCheck = l.rxCheck := by
  unfold Lnk.enter
  split
  · rfl
  · split <;> rfl
@[simp] theorem Lnk.enter_markReplaced (l : Lnk) (f : List TxEntry → TxEntry → List TxEntry) (e : TxEntry) :
    (l.enter f e).markReplaced = l.markReplaced := by
  unfold Lnk.enter
  split
  · rfl
  · split <;> rfl
@[simp] theorem Lnk.enter_markStale (l : Lnk) (f : List TxEntry → TxEntry → List TxEntry) (e : TxEntry) :
    (l.enter f e).markStale = l.markStale := by
  unfold Lnk.enter
  split
  · rfl
  · split <;> rfl

/-! `Lnk.offer` changes queue, txDrop, markReplaced, nextOrder alone. -/
@[simp] theorem Lnk.offer_lineIdle (l : Lnk) (x : TxItem) :
    (l.offer x).lineIdle = l.lineIdle := by
  simp only [Lnk.offer]
  split <;> simp
@[simp] theorem Lnk.offer_recessive (l : Lnk) (x : TxItem) :
    (l.offer x).recessive = l.recessive := by
  simp only [Lnk.offer]
  split <;> simp
@[simp] theorem Lnk.offer_shifter (l : Lnk) (x : TxItem) :
    (l.offer x).shifter = l.shifter := by
  simp only [Lnk.offer]
  split <;> simp
@[simp] theorem Lnk.offer_assembling (l : Lnk) (x : TxItem) :
    (l.offer x).assembling = l.assembling := by
  simp only [Lnk.offer]
  split <;> simp
@[simp] theorem Lnk.offer_ownAborted (l : Lnk) (x : TxItem) :
    (l.offer x).ownAborted = l.ownAborted := by
  simp only [Lnk.offer]
  split <;> simp
@[simp] theorem Lnk.offer_latch (l : Lnk) (x : TxItem) :
    (l.offer x).latch = l.latch := by
  simp only [Lnk.offer]
  split <;> simp
@[simp] theorem Lnk.offer_checkErrors (l : Lnk) (x : TxItem) :
    (l.offer x).checkErrors = l.checkErrors := by
  simp only [Lnk.offer]
  split <;> simp
@[simp] theorem Lnk.offer_collisions (l : Lnk) (x : TxItem) :
    (l.offer x).collisions = l.collisions := by
  simp only [Lnk.offer]
  split <;> simp
@[simp] theorem Lnk.offer_rxCheck (l : Lnk) (x : TxItem) :
    (l.offer x).rxCheck = l.rxCheck := by
  simp only [Lnk.offer]
  split <;> simp
@[simp] theorem Lnk.offer_markStale (l : Lnk) (x : TxItem) :
    (l.offer x).markStale = l.markStale := by
  simp only [Lnk.offer]
  split <;> simp

/-! `Lnk.giveBack` changes queue, txDrop, markReplaced, shifter alone. -/
@[simp] theorem Lnk.giveBack_lineIdle (l : Lnk) :
    (l.giveBack).lineIdle = l.lineIdle := by
  simp only [Lnk.giveBack]
  split
  · rfl
  · split
    · rfl
    · split <;> simp
@[simp] theorem Lnk.giveBack_recessive (l : Lnk) :
    (l.giveBack).recessive = l.recessive := by
  simp only [Lnk.giveBack]
  split
  · rfl
  · split
    · rfl
    · split <;> simp
@[simp] theorem Lnk.giveBack_nextOrder (l : Lnk) :
    (l.giveBack).nextOrder = l.nextOrder := by
  simp only [Lnk.giveBack]
  split
  · rfl
  · split
    · rfl
    · split <;> simp
@[simp] theorem Lnk.giveBack_assembling (l : Lnk) :
    (l.giveBack).assembling = l.assembling := by
  simp only [Lnk.giveBack]
  split
  · rfl
  · split
    · rfl
    · split <;> simp
@[simp] theorem Lnk.giveBack_ownAborted (l : Lnk) :
    (l.giveBack).ownAborted = l.ownAborted := by
  simp only [Lnk.giveBack]
  split
  · rfl
  · split
    · rfl
    · split <;> simp
@[simp] theorem Lnk.giveBack_latch (l : Lnk) :
    (l.giveBack).latch = l.latch := by
  simp only [Lnk.giveBack]
  split
  · rfl
  · split
    · rfl
    · split <;> simp
@[simp] theorem Lnk.giveBack_checkErrors (l : Lnk) :
    (l.giveBack).checkErrors = l.checkErrors := by
  simp only [Lnk.giveBack]
  split
  · rfl
  · split
    · rfl
    · split <;> simp
@[simp] theorem Lnk.giveBack_collisions (l : Lnk) :
    (l.giveBack).collisions = l.collisions := by
  simp only [Lnk.giveBack]
  split
  · rfl
  · split
    · rfl
    · split <;> simp
@[simp] theorem Lnk.giveBack_rxCheck (l : Lnk) :
    (l.giveBack).rxCheck = l.rxCheck := by
  simp only [Lnk.giveBack]
  split
  · rfl
  · split
    · rfl
    · split <;> simp
@[simp] theorem Lnk.giveBack_markStale (l : Lnk) :
    (l.giveBack).markStale = l.markStale := by
  simp only [Lnk.giveBack]
  split
  · rfl
  · split
    · rfl
    · split <;> simp

/-! `Lnk.remove` changes queue, shifter alone. -/
@[simp] theorem Lnk.remove_lineIdle (l : Lnk) (p : Payload → Bool) :
    (l.remove p).lineIdle = l.lineIdle := by
  rfl
@[simp] theorem Lnk.remove_recessive (l : Lnk) (p : Payload → Bool) :
    (l.remove p).recessive = l.recessive := by
  rfl
@[simp] theorem Lnk.remove_nextOrder (l : Lnk) (p : Payload → Bool) :
    (l.remove p).nextOrder = l.nextOrder := by
  rfl
@[simp] theorem Lnk.remove_assembling (l : Lnk) (p : Payload → Bool) :
    (l.remove p).assembling = l.assembling := by
  rfl
@[simp] theorem Lnk.remove_ownAborted (l : Lnk) (p : Payload → Bool) :
    (l.remove p).ownAborted = l.ownAborted := by
  rfl
@[simp] theorem Lnk.remove_latch (l : Lnk) (p : Payload → Bool) :
    (l.remove p).latch = l.latch := by
  rfl
@[simp] theorem Lnk.remove_checkErrors (l : Lnk) (p : Payload → Bool) :
    (l.remove p).checkErrors = l.checkErrors := by
  rfl
@[simp] theorem Lnk.remove_collisions (l : Lnk) (p : Payload → Bool) :
    (l.remove p).collisions = l.collisions := by
  rfl
@[simp] theorem Lnk.remove_rxCheck (l : Lnk) (p : Payload → Bool) :
    (l.remove p).rxCheck = l.rxCheck := by
  rfl
@[simp] theorem Lnk.remove_txDrop (l : Lnk) (p : Payload → Bool) :
    (l.remove p).txDrop = l.txDrop := by
  rfl
@[simp] theorem Lnk.remove_markReplaced (l : Lnk) (p : Payload → Bool) :
    (l.remove p).markReplaced = l.markReplaced := by
  rfl
@[simp] theorem Lnk.remove_markStale (l : Lnk) (p : Payload → Bool) :
    (l.remove p).markStale = l.markStale := by
  rfl

@[simp] theorem Lnk.offer_nextOrder (l : Lnk) (x : TxItem) : (l.offer x).nextOrder = l.nextOrder + 1 := by
  simp only [Lnk.offer]
  split <;> simp

/-- Inserting keeps the entries and adds the one inserted. -/
theorem txInsert_perm (q : List TxEntry) (e : TxEntry) : (txInsert q e).Perm (e :: q) := by
  induction q with
  | nil => exact List.Perm.refl _
  | cons x xs ih =>
    simp only [txInsert]
    split
    · exact (ih.cons x).trans (List.Perm.swap e x xs)
    · exact List.Perm.refl _

/-- Reinserting keeps the entries and adds the one returned. -/
theorem txReinsert_perm (q : List TxEntry) (e : TxEntry) : (txReinsert q e).Perm (e :: q) := by
  induction q with
  | nil => exact List.Perm.refl _
  | cons x xs ih =>
    simp only [txReinsert]
    split
    · exact (ih.cons x).trans (List.Perm.swap e x xs)
    · exact List.Perm.refl _

/-- The stale MARKs at the head of the queue are all that is discarded at a start bit. -/
theorem dropStale_suffix (now : Tick) (q : List TxEntry) : (dropStale now q).1 <:+ q := by
  induction q with
  | nil => exact List.suffix_rfl
  | cons e rest ih =>
    simp only [dropStale]
    split
    · split
      · exact ih.trans (List.suffix_cons e rest)
      · exact List.suffix_rfl
    · exact List.suffix_rfl

/-- Dropping the newest entry of a class leaves a sublist. -/
theorem dropNewest_sublist (q : List TxEntry) (c : Nat) : (dropNewest q c).Sublist q := by
  have h : (q.reverse.eraseP fun e => e.cls = c).Sublist q.reverse := List.eraseP_sublist
  simpa [dropNewest] using h.reverse

end Sys2Proof.Machine
end

