-- ==== Sys2Proof/Laws/Store.lean ====
section
/-! SUPPORT. Reading one place of the Plan Store, of the Peer Table or of the overlay slots after writing one:
the place written reads as written, and every other place as before. -/

namespace Sys2Proof.Machine

@[simp] theorem Pls.slot_setSlot_same (p : Pls) (i : Slot) (r : StepRecord) : (p.setSlot i r).slot i = r := by
  simp [Pls.slot, Pls.setSlot]

theorem Pls.slot_setSlot_ne (p : Pls) {i j : Slot} (r : StepRecord) (h : j ≠ i) :
    (p.setSlot i r).slot j = p.slot j := by
  have : i.toNat ≠ j.toNat := fun e => h (BitVec.eq_of_toNat_eq e).symm
  simp [Pls.slot, Pls.setSlot, Vector.getElem_set_ne, this]

@[simp] theorem Pls.setSlot_profiles (p : Pls) (i : Slot) (r : StepRecord) :
    (p.setSlot i r).profiles = p.profiles := rfl

@[simp] theorem Pls.profile_setProfile_same (p : Pls) (i : ProfileIndex) (l : List ProfileEntry) :
    (p.setProfile i l).profile i = l := by
  simp [Pls.profile, Pls.setProfile]

theorem Pls.profile_setProfile_ne (p : Pls) {i j : ProfileIndex} (l : List ProfileEntry) (h : j ≠ i) :
    (p.setProfile i l).profile j = p.profile j := by
  have : i.toNat ≠ j.toNat := fun e => h (BitVec.eq_of_toNat_eq e).symm
  simp [Pls.profile, Pls.setProfile, Vector.getElem_set_ne, this]

@[simp] theorem Pls.setProfile_ring (p : Pls) (i : ProfileIndex) (l : List ProfileEntry) :
    (p.setProfile i l).ring = p.ring := rfl

@[simp] theorem Pls.slot_setProfile (p : Pls) (i : ProfileIndex) (l : List ProfileEntry) (j : Slot) :
    (p.setProfile i l).slot j = p.slot j := rfl

@[simp] theorem Ptb.peer_setPeer_same (p : Ptb) (n : Station) (r : PeerRecord) : (p.setPeer n r).peer n = r := by
  simp [Ptb.peer, Ptb.setPeer]

theorem Ptb.peer_setPeer_ne (p : Ptb) {n m : Station} (r : PeerRecord) (h : m ≠ n) :
    (p.setPeer n r).peer m = p.peer m := by
  have : n.toNat ≠ m.toNat := fun e => h (BitVec.eq_of_toNat_eq e).symm
  simp [Ptb.peer, Ptb.setPeer, Vector.getElem_set_ne, this]

@[simp] theorem Ovl.slot_setSlot_same (o : Ovl) (i : OverlayIndex) (x : OverlaySlot) :
    (o.setSlot i x).slot i = x := by
  simp [Ovl.slot, Ovl.setSlot]

theorem Ovl.slot_setSlot_ne (o : Ovl) {i j : OverlayIndex} (x : OverlaySlot) (h : j ≠ i) :
    (o.setSlot i x).slot j = o.slot j := by
  have : i.toNat ≠ j.toNat := fun e => h (BitVec.eq_of_toNat_eq e).symm
  simp [Ovl.slot, Ovl.setSlot, Vector.getElem_set_ne, this]

@[simp] theorem Ovl.slot_allOff (i : OverlayIndex) : Ovl.allOff.slot i = .off := by
  simp [Ovl.slot, Ovl.allOff]

@[simp] theorem Ovl.slot_advance (o : Ovl) (i : OverlayIndex) : o.advance.slot i = (o.slot i).advance := by
  simp [Ovl.slot, Ovl.advance]

/-- A write-back changes `live` and the outcome part of a record and nothing else (R57). -/
@[simp] theorem StepRecord.written_live (r : StepRecord) (live : Bool) (e : EndReason) (p : Pass) :
    (r.written live e p).live = live := rfl

@[simp] theorem StepRecord.written_outcome (r : StepRecord) (live : Bool) (e : EndReason) (p : Pass) :
    (r.written live e p).outcome = some (mergeOutcome r.outcome e p) := rfl

@[simp] theorem mergeOutcome_endReason (o : Option StepOutcome) (e : EndReason) (p : Pass) :
    (mergeOutcome o e p).endReason = e := by
  cases o <;> rfl

end Sys2Proof.Machine
end

