-- ==== Sys2Proof/Laws/Taking.lean ====
section
/-! SUPPORT. How a station takes a command: at once when it is ready, after what is due otherwise, and not at
all while a reset is asserted. -/

namespace Sys2Proof.Machine

/-- With nothing due, settling does nothing. -/
theorem State.settle_of_not_due {s : State} (h : s.due = false) : s.settle = s := by
  simp [State.settle, h]

theorem State.taking_of_ready {s : State} (h : s.ready) (f : State → State) : s.taking f = .next (f s) := by
  simp [State.taking, h.1, State.settle_of_not_due h.2]

theorem State.taking_of_running {s : State} (h : s.running = true) (f : State → State) :
    s.taking f = .next (f s.settle) := by
  simp [State.taking, h]

theorem State.taking_of_not_running {s : State} (h : s.running = false) (f : State → State) :
    s.taking f = .next s := by
  simp [State.taking, h]

theorem State.carrying_of_running {s : State} (h : s.running = true) (f : State → State) :
    s.carrying f = .next (f s) := by
  simp [State.carrying, h]

theorem State.carrying_of_not_running {s : State} (h : s.running = false) (f : State → State) :
    s.carrying f = .next s := by
  simp [State.carrying, h]

/-- A frame that LNK has been assembling is received. -/
theorem State.heard_of_assembling {s : State} (h : s.lnk.assembling = true) (f : State → State) :
    s.heard f = f s.frameEnd := by
  simp [State.heard, h]

/-- A frame that LNK has not been assembling is not received. -/
theorem State.heard_of_not_assembling {s : State} (h : s.lnk.assembling = false) (f : State → State) :
    s.heard f = s := by
  simp [State.heard, h]

theorem State.requested_of_hearing {s : State} (h : s.hearing) (f : State → State) :
    s.requested f = .next (f s.frameEnd) := by
  simp [State.requested, State.taking_of_ready h.1, State.heard_of_assembling h.2]

/-- A request that ends a frame LNK has not assembled is not received. -/
theorem State.requested_of_not_assembling {s : State} (h : s.ready) (k : s.lnk.assembling = false)
    (f : State → State) : s.requested f = .next s := by
  simp [State.requested, State.taking_of_ready h, State.heard_of_not_assembling k]

/-- Settling keeps a station running. -/
@[simp] theorem State.settle_running (s : State) : s.settle.running = s.running := by
  simp [State.running]

/-- A reset of a running station comes after what is due. -/
theorem State.resetBy_of_running {s : State} (h : s.running = true) (k : StartCause) :
    s.resetBy k = s.settle.assertReset k := by
  simp [State.resetBy, h]

/-- A reset of a ready station, or of one that does not run, finds nothing due. -/
theorem State.resetBy_of_nothing_due {s : State} (h : s.running = true → s.due = false) (k : StartCause) :
    s.resetBy k = s.assertReset k := by
  cases r : s.running
  · simp [State.resetBy, r]
  · simp [State.resetBy, r, State.settle_of_not_due (h r)]

/-- A ready station has no step to end, no marker limit, no own trip, no loss, no lock evaluation that waits, no
timeout and no finished ramp. -/
theorem State.ready.nothing_due {s : State} (h : s.ready) :
    s.endingStep = none ∧ s.seq.markerLimit = false ∧ s.ftu.tripDue = false ∧ s.anyLossDue = false
      ∧ s.lck.waiting = none ∧ s.timeoutDue = false ∧ s.syn.rampDone = false ∧ s.ctb.rampDone = false
      ∧ s.syn.safeDone = false := by
  have := h.2
  simp only [State.due, Bool.or_eq_false_iff] at this
  obtain ⟨⟨⟨⟨⟨⟨⟨⟨a, b⟩, c⟩, d⟩, w⟩, e⟩, f⟩, g⟩, i⟩ := this
  exact ⟨by simpa using a, b, c, d, by simpa using w, e, f, g, i⟩

/-- The end of the frame on the line, in the terms of the statements. -/
theorem State.frameEnd_eq (s : State) : s.frameEnd = s.setLnk s.lnk.frameEnded := rfl

/-- No frame is offered. -/
theorem Lnk.offersNamed_nil (l : Lnk) : l.offersNamed l [] := ⟨[], rfl, rfl⟩

/-- One more frame is offered behind the others. -/
theorem Lnk.offersNamed_snoc {l m : Lnk} {names : List FrameName} (h : l.offersNamed m names) (x : TxItem) :
    l.offersNamed (m.offer x) (names ++ [x.name]) := by
  obtain ⟨items, rfl, rfl⟩ := h
  exact ⟨items ++ [x], by simp [Lnk.offers], by simp⟩

/-- One frame is offered. -/
theorem Lnk.offersNamed_one (l : Lnk) (x : TxItem) : l.offersNamed (l.offer x) [x.name] :=
  ⟨[x], rfl, rfl⟩

/-- Two runs of offers, one after the other. -/
theorem Lnk.offersNamed_append {l m n : Lnk} {a b : List FrameName} (h : l.offersNamed m a)
    (k : m.offersNamed n b) : l.offersNamed n (a ++ b) := by
  obtain ⟨i, rfl, rfl⟩ := h
  obtain ⟨j, rfl, rfl⟩ := k
  exact ⟨i ++ j, by simp [Lnk.offers], by simp⟩

end Sys2Proof.Machine
end

