-- ==== Sys2Proof/Tests/Slice0.lean ====
section
/-! SUPPORT. Tests: the terms `WellFormed` refuses, the manual's worked cases, and for every obligation with
hypotheses a concrete state that meets them. Expected values are the manual's, or worked by hand from its
rules. -/

namespace Sys2Proof.Tests

-- One theorem after another: several at once reserve more memory than a module build may.
set_option Elab.async false

open Sys2Proof.Machine

/-! ### Small states -/

/-- The requester of the tests: node 9, addressing the station. -/
def node9 : Requester := { node := 9, toAll := false }

/-- Node 9 addressing ALL. -/
def all9 : Requester := { node := 9, toAll := true }

/-- A live NORMAL step with nothing but its core fields. -/
def plainStep : StepRecord := { StepRecord.empty with live := true }

/-- A live LOOP_BEGIN with three passes to add. -/
def loopBegin : StepRecord := { plainStep with kind := .loopBegin, loopCount := 3 }

/-- A live LOOP_END. -/
def loopEnd : StepRecord := { plainStep with kind := .loopEnd }

/-- The state after reset with SEQ in a state, a step in hand or none, and an output state, at level 100. -/
def inState (q : SeqState) (image : Option StepRecord) (out : OutState) : State :=
  (State.reset.setSeq { State.reset.seq with state := q, image := image }).setSyn
    { State.reset.syn with out := out, level := 100 }

/-- An ACTIVE step whose two samples of duration have been counted. -/
def ending (r : StepRecord) (latched : Bool) : State :=
  let s := inState .active (some { r with duration := some 2 }) .live
  s.setSeq { s.seq with progress := 2, suspendLatch := latched }

/-- The state with its own phase one advance short of a wrap of θ and of θc. -/
def nearWrap (s : State) : State := s.setCtb { s.ctb with theta := 4294967295 }

/-- The state of station 1 of 3, with one record for station 0. -/
def withPeer0 (s : State) (r : PeerRecord) : State :=
  let t := s.setStc { s.stc with straps := { number := 1, count := 3, offsetSelect := 0, gainSelect := 0 } }
  t.setPtb ((t.ptb.setPeer 1 PeerRecord.own).setPeer 0 r)

/-- The state with LNK assembling the frame on the line. -/
def heardBy (s : State) : State := s.setLnk { s.lnk with assembling := true }

/-- A live plain step of nine samples. -/
def nine : StepRecord := { plainStep with duration := some 9 }

theorem readies {s : State} (h : (s.running && !s.due) = true) : s.ready := by
  simpa [State.ready] using h

theorem hears {s : State} (h : (s.running && !s.due && s.lnk.assembling) = true) : s.hearing := by
  simpa [State.hearing, State.ready, and_assoc] using h

theorem noStart_of_state {s : State} (h : s.seq.state ≠ .armed ∧ s.seq.state ≠ .gathering) : s.noStart := by
  rintro r ⟨_, _, ⟨k, _⟩ | ⟨k, _⟩⟩
  · exact h.1 k
  · exact h.2 k

theorem undisputed_of_calm {s : State} (h : s.ftu.tripCycles = 0)
    (k : ∀ n, s.expectedPeer n = true → ¬ 7 ≤ (s.ptb.peer n).age) : s.undisputed :=
  ⟨fun t => t.1.2.2.2.1 h, fun ⟨_, _, n, e, _, a⟩ => k n e a⟩

/-- A record that stays below the age of loss makes no loss. -/
theorem no_loss {s : State} (k : ∀ n, s.expectedPeer n = true → ¬ 7 ≤ (s.ptb.peer n).age) : ¬ s.lossAhead :=
  fun ⟨_, n, e, _, a⟩ => k n e a

/-- A PRESENT record with an error, fresh. -/
def present (e : Int) : PeerRecord := { PeerRecord.absent with state := .present, error := e, fresh := true }

/-- A frame of each kind used by the queue's worked case, with its entry order. -/
def entry (order : Nat) (p : Payload) : TxEntry := { order := order, item := .frame 15 p }

/-- The orders of a queue, first to go out first. -/
def orders (l : Lnk) : List Nat := l.queue.map (·.order)

def statusFrame : Payload := .status Summary.atReset
def answerFrame : Payload := .answer .query 0 .ok
def stepOutcome : StepOutcome :=
  { endReason := .completed, passes := 1, cyclesMeasured := 0, lrms := none, limitedSamples := 0, foldedCycles := 0 }

/-- The full queue of section 6.5.1. -/
def fullQueue : Lnk :=
  { State.reset.lnk with
    nextOrder := 16
    queue :=
      [entry 12 (.withdraw 1 .timeout), { order := 9, item := .mark 0 }, entry 10 (.join 1 3)
       , entry 11 statusFrame, entry 13 (.result 0 false stepOutcome), entry 8 answerFrame
       , entry 14 (.stepCopy 0 StepRecord.empty), entry 15 answerFrame] }

/-- A state of LNK in place of another. -/
def withLnk (s : State) (l : Lnk) : State := s.setLnk l

/-! ### Terms that WellFormed refuses, one for each check -/

theorem test_refused_requester_below_8 : (Instr.query { node := 7, toAll := false }).wellFormed = false := by decide
theorem test_refused_requester_all : (Instr.run { node := 15, toAll := false } none).wellFormed = false := by decide
theorem test_refused_count_0 : (Instr.oscillatorCountEnd { number := 0, count := 0, offsetSelect := 0, gainSelect := 0 }).wellFormed = false := by decide
theorem test_refused_count_9 : (Instr.oscillatorCountEnd { number := 0, count := 9, offsetSelect := 0, gainSelect := 0 }).wellFormed = false := by decide
theorem test_refused_elapsed : (Instr.transmitStart 1600).wellFormed = false ∧ (Instr.startBitSeen 1600).wellFormed = false := by decide

/-- A raw record with no optional part. -/
def rawEmpty : RawRecord :=
  { live := true, wrap := false, kind := 0, holdAfter := false, notify := false, unit := false, loopCount := 0
    ramp := 0, level := none, frequency := none, startAngle := none, duration := none, await := none
    joint := none, tripPolicy := none, currentLimit := none, tripCycles := none, profile := none
    markers := none, overlays := [] }

/-- An overlay entry as sent that disarms slot 0. -/
def rawDisarm : RawOverlay := { slot := 0, action := 0, wide := 0, narrow := 0 }

theorem test_refused_overlay_count : (Instr.stepWrite node9 0 { rawEmpty with overlays := List.replicate 8 rawDisarm }).wellFormed = false := by decide
theorem test_refused_profile_entries : (Instr.profileWrite node9 0 2 []).wellFormed = false := by decide
theorem test_refused_profile_overlong : (Instr.profileWrite node9 0 13 [{ order := 3, amplitude := 0, phase := 0 }]).wellFormed = false := by decide
theorem test_accepted : (Instr.stepWrite all9 0 { rawEmpty with overlays := List.replicate 7 rawDisarm }).wellFormed = true ∧ (Instr.transmitStart 1599).wellFormed = true := by decide

/-- The table gives no row bits, so no word spells a command. -/
theorem test_no_word : decodeTableWord 8 255 = none ∧ (State.reset.withFetchWord 8 255).pending = [] := ⟨rfl, rfl⟩

/-! ### The manual's worked cases -/

/-- Section 2.5.1. -/
theorem test_2_5_1_one_sample :
    amplitude 20000 7000 1024 = 14000 ∧ sineAt 512 = 23170
      ∧ sigma 536870912 14000 [{ order := 3, amplitude := 50, phase := 0 }] Ovl.allOff 20000 1024 = 10394 := by decide

/-- Section 2.3.1: a falling ramp of four samples. -/
theorem test_2_3_1_level_ramp :
    [rampValue 10000 7000 1 4, rampValue 10000 7000 2 4, rampValue 10000 7000 3 4, rampValue 10000 7000 4 4]
      = [9250, 8500, 7750, 7000] := by decide

/-- Section 1.3.1: the falling frequency ramp is rounded toward its start. -/
theorem test_1_3_1_frequency_ramp :
    incrementOf 5100 = 8556380 ∧ incrementOf 4900 = 8220836
      ∧ rampValue 8388608 8220836 1 5 = 8388608 - 33554 ∧ rampValue 8388608 8220836 3 5 = 8388608 - 100663 := by decide

/-- Section 1.7.1, station 0 at 60.00 Hz: the 427th advance is a common wrap 533 ticks after the mark instant. -/
theorem test_1_7_1_mark_instant :
    let c : Ctb := { State.reset.ctb with f := incrementOf 6000, theta := BitVec.ofNat 32 (426 * 10066330), tick := 681600 }
    c.nextAdvance.commonWrap = true ∧ c.nextAdvance.theta = 3355614 ∧ c.nextAdvance.markInstant = 682667 := by decide

/-- Section 2.7.1: the crest of level 15,000 at P_nom 30,000 is clipped. -/
theorem test_2_7_1_clip :
    amplitude 30000 15000 1024 = 45000 ∧ fundamental 1073741824 45000 = 44999
      ∧ (State.reset.syn.present 44999 32000 false).limited = false
      ∧ ((inState .active none .live).syn.present 44999 32000 true).dac = 32000
      ∧ ((inState .active none .live).syn.present 44999 32000 true).limitedSamples = 1 := by decide

/-- Section 3.2.1: a re-armed tone keeps its phase; one armed after a notch starts at 0. -/
theorem test_3_2_1_rearm :
    let o := (Ovl.allOff.apply { slot := 2, arm := some (.tone 12500 500) }).advance
    let p := o.apply { slot := 2, arm := some (.tone 17500 300) }
    let q := (p.apply { slot := 2, arm := some (.notch 0 15000 18000) }).apply { slot := 2, arm := some (.tone 17500 300) }
    o.slot 2 = .tone 12500 20971520 500 20971520 ∧ p.slot 2 = .tone 17500 29360128 300 20971520
      ∧ q.slot 2 = .tone 17500 29360128 300 0 := by decide

/-- Section 3.3.1: the tone's terms on samples s + 128 and s + 256. -/
theorem test_3_3_1_tone :
    (OverlaySlot.tone 12500 20971520 500 2684354560).additive 20000 1024 = -707
      ∧ (OverlaySlot.tone 12500 20971520 500 1073741824).additive 20000 1024 = 1000 := by decide

/-- The overlays of section 3.4.1. -/
def threeSlots : Ovl :=
  ((Ovl.allOff.apply { slot := 1, arm := some (.notch 0 16500 17500) }).apply
    { slot := 4, arm := some (.flattop 8000 8000 56000) }).apply { slot := 6, arm := some (.force 0 60000 2000) }

/-- Section 3.4.1: the selection on the samples at angles 16,384, 16,512, 49,152, 57,344 and 61,440. -/
theorem test_3_4_1_selection :
    [sigmaReplaced (BitVec.ofNat 32 (16384 * 65536)) 19999 threeSlots 20000
     , sigmaReplaced (BitVec.ofNat 32 (16512 * 65536)) 19999 threeSlots 20000
     , sigmaReplaced (BitVec.ofNat 32 (49152 * 65536)) (-19999) threeSlots 20000
     , sigmaReplaced (BitVec.ofNat 32 (57344 * 65536)) (-14142) threeSlots 20000
     , sigmaReplaced (BitVec.ofNat 32 (61440 * 65536)) (-7654) threeSlots 20000]
      = [16000, 0, -16000, -14142, 0] := by decide

/-- R46: a notch of 3,000 acts toward zero. -/
theorem test_R46_notch :
    sigmaReplaced 0 19999 (Ovl.allOff.apply { slot := 0, arm := some (.notch 3000 5 5) }) 20000 = 5999
      ∧ sigmaReplaced 0 (-19999) (Ovl.allOff.apply { slot := 0, arm := some (.notch 3000 5 5) }) 20000 = -5999 := by decide

/-- Section 6.5.1: STATUS 16 displaces ANSWER 15, STATUS 17 STEP_COPY 14, STATUS 18 ANSWER 8; STATUS 19 is lost;
TRIP 20 displaces STATUS 18; MARK 21 takes the place of MARK 9. -/
theorem test_6_5_1_full_queue :
    let l := ((fullQueue.offer (.frame 15 statusFrame)).offer (.frame 15 statusFrame)).offer (.frame 15 statusFrame)
    let m := ((l.offer (.frame 15 statusFrame)).offer (.frame 15 (.trip .foldback 0))).offer (.mark 5)
    orders (fullQueue.offer (.frame 15 statusFrame)) = [12, 9, 10, 11, 13, 16, 8, 14]
      ∧ orders l = [12, 9, 10, 11, 13, 16, 17, 18] ∧ orders (l.offer (.frame 15 statusFrame)) = orders l
      ∧ orders m = [12, 20, 21, 10, 11, 13, 16, 17] ∧ m.txDrop = true ∧ m.markReplaced = true := by decide

/-- Section 6.6.1: the MARK of mark instant 96,950 is filled with age 3,562 at tick 100,512. -/
theorem test_6_6_1_mark_age : markAge 100512 96950 = 3562 ∧ markAge 101248 96950 = 4298 := by decide

/-- Section 7.3.1. -/
theorem test_7_3_1_error :
    let c : Ctb := { State.reset.ctb with theta := 6291456, divider := 400 }
    c.thetaCNow = 8388608
      ∧ markError { tick := 0, thetaC := 8388608, fEff := 8388608, captured := false } 1000 = 3145728 := by decide

/-- Section 7.6.1: C is −341 with the errors 2^22 and −2^21 and g = 34, and the streak rises. -/
theorem test_7_6_1_evaluation :
    let s := withPeer0 (inState .active none .live) (present 4194304)
    let s := (s.setPtb (s.ptb.setPeer 2 (present (-2097152)))).setStc
      { s.stc with straps := { s.stc.straps with gainSelect := 1 } }
    (s.evaluateLock 8388608).ctb.c = -341 ∧ (s.evaluateLock 8388608).lck.streak = 1 := by decide

/-- Section 7.7.1: the capture of a late station, which orders no CLAMP_HIT. -/
theorem test_7_7_1_capture :
    let s := withPeer0 (inState .idle none .dark) (present 100000000)
    (s.evaluateLock 8388608).ctb.theta = 4194967296 ∧ (s.evaluateLock 8388608).lck.clampHit = false
      ∧ (s.evaluateLock 8388608).ctb.c = 0 := by decide

/-- Section 9.7: the four cycles of the table. -/
theorem test_9_7_cycles :
    let m : Fbm := { sumSquares := 102400000000, samples := 512, peakV := 20000, peakI := 0, lastLrms := 0 }
    m.closedLrms 20000 = 9999 ∧ { m with sumSquares := 50176000000 }.closedLrms 20000 = 6999
      ∧ m.closedLrms 1000 = 65535 ∧ { m with peakV := 32767 }.closedLrms 20000 = 65535
      ∧ rms 63130000000 512 = 11104 := by decide

/-- Section 10.9: Φ falls by 8, is held at 64, rises by 1 and is held at 1,024. -/
theorem test_10_9_fold :
    let u := State.reset.ftu
    (u.foldUpdate 24001 8).phi = 1016 ∧ ({ u with phi := 64 }.foldUpdate (-24001) 8).phi = 64
      ∧ ({ u with phi := 716 }.foldUpdate 24000 8).phi = 717 ∧ (u.foldUpdate 0 8).phi = 1024 := by decide

/-- R100: the check of the digits 1 to 9, and the length of a STEP_COPY of 63 bytes (section 6.6.1). -/
theorem test_R100_check : crc [49, 50, 51, 52, 53, 54, 55, 56, 57] = 10673 ∧ frameBitTimes 63 = 553 := by
  decide +kernel

/-! ### Frames written out byte by byte from R96 and R116 -/

/-- A frame's bytes with its check. -/
def checked (l : List Byte) : List Byte := l ++ wordBytes (crc l)

/-- A MARK of station 2: LOCKED, ACTIVE, LIVE, slot 7, age 258. -/
theorem test_frame_mark :
    readFrame 1 (checked [72, 16, 240, 4, 1, 2, 141, 7])
      = .markReceived 2 { age := 258, lock := .locked, seq := .active, out := .live, slot := 7 } := by
  decide +kernel

/-- A TRIP of station 3 with cause PEER_LOST in slot 9, and the same bytes with a wrong check. -/
theorem test_frame_trip :
    readFrame 1 (checked [12, 1, 240, 2, 2, 9]) = .tripReceived 3 .peerLost 9
      ∧ readFrame 1 [12, 1, 240, 2, 2, 9, 0, 0] = .badFrame := by decide +kernel

/-- A RUN with start slot 5 from node 9 to station 1; to station 2 it is not this station's. -/
theorem test_frame_run :
    readFrame 1 (checked [228, 52, 16, 1, 5]) = .run node9 (some 5)
      ∧ readFrame 1 (checked [228, 52, 32, 1, 5]) = .ignoredFrameReceived 9 := by decide +kernel

/-- A STEP_WRITE of a live NORMAL step for slot 4 with `level` 7,000 and no other optional part. -/
theorem test_frame_step_write :
    readFrame 1 (checked [228, 49, 16, 9, 4, 128, 0, 128, 0, 0, 0, 27, 88])
      = .stepWrite node9 4 { rawEmpty with level := some 7000 } := by decide +kernel

/-! ### Single commands -/

/-- The state a command leaves, if it answers one. -/
def after (i : Instr) (s : State) : Option State :=
  match exec i s with
  | .next t => some t
  | _ => none

/-- R86: a SUSPEND in HELD moves the pointer on. -/
theorem test_suspend_held :
    (after (.suspend node9) (heardBy (inState .held (some plainStep) .live))).map (fun t => (t.seq.state, t.seq.pointer))
      = some (.suspended, 1) := by decide +kernel

/-- R53, R54: absent `duration` and `await` are stored as count 0 SAMPLES and as none. -/
theorem test_R53_R54_absent :
    storeRecord 0 1 rawEmpty = storeRecord 0 1 { rawEmpty with duration := some 0, await := some 0 } := by
  decide +kernel

/-- R95: a frame whose start bit LNK did not take is not received. -/
theorem test_R95_unheard : after (.query node9) State.reset = some State.reset := by decide +kernel

/-- R72: LOOP_BEGIN with 3 passes to add opens a loop at the next slot; LOOP_END counts one of them down. -/
theorem test_R72_walk :
    let p := ((Pls.empty.setSlot 0 loopBegin).setSlot 1 loopEnd).setSlot 2 plainStep
    walk p 0 1024 0 none = { pointer := 2, loop := none, found := .step plainStep } := by decide +kernel

/-! ### Hypotheses are met: the step, the start -/

theorem witness_StepTakesTheFrontCommand :
    (State.reset.setPending [.lineIdle]).pending = .lineIdle :: [] := rfl

/-- A station that runs with something due: a step whose duration is over. -/
theorem witness_due : (ending plainStep false).running = true ∧ (ending plainStep false).due = true
    ∧ (ending plainStep false).pending = [] := by decide

/-- A ready station with an empty queue, at divider 0, 1,598 and 1,599; and one that does not run. -/
theorem witness_ready : State.reset.ready ∧ State.reset.pending = [] ∧ State.reset.ctb.divider < 1599 :=
  ⟨⟨by decide, by decide⟩, rfl, by decide⟩

/-- A ready station on the last tick before its next sample event. -/
def lastTick (s : State) : State := s.setCtb { s.ctb with divider := 1599 }

theorem witness_ready_last_tick : (lastTick State.reset).ready ∧ (lastTick State.reset).ctb.divider = 1599 :=
  ⟨⟨by decide, by decide⟩, rfl⟩

/-- A station in a stage of its start, with a pending cause. -/
def starting (p : StartPhase) (cause : StartCause) : State :=
  State.reset.setStc { State.reset.stc with phase := p, pendingCause := some cause }

theorem witness_not_running : (starting .asserted .resetPin).running = false
    ∧ (starting .asserted .resetPin).pending = [] := by decide

theorem witness_DueEventsComeFirst :
    Instr.lineIdle.isDueEvent = false ∧ Instr.lineIdle.isStartEvent = false ∧ Instr.resetPin.isDueEvent = false := by
  decide

/-- A reset with nothing due and a step in effect, with an ended step, and with an own trip of a step that goes on. -/
theorem witness_ResetAssertion :
    let active := inState .active (some nine) .live
    let trip := active.setFtu { active.ftu with tripDue := true }
    active.due = false ∧ active.running = true
      ∧ ((ending plainStep false).running = true ∧ (ending plainStep false).seq.markerLimit = false
        ∧ (ending plainStep false).ftu.tripDue = false ∧ (2 : Word16).toNat ≤ (ending plainStep false).seq.progress)
      ∧ trip.running = true ∧ trip.ftu.tripDue = true ∧ trip.seq.image = some nine ∧ ¬ (9 : Word16).toNat ≤ trip.seq.progress
      := by decide +kernel

/-- R68: a RESET_PIN after the end sample of a step finds it written back; one during the step does not write it. -/
theorem test_R68_reset_after_end :
    ((after (.resetPin) (ending plainStep false)).bind fun t => (t.pls.slot 0).outcome.map (·.endReason))
        = some .completed
      ∧ (after (.resetPin) (inState .active (some nine) .live)).map (fun t => (t.pls.slot 0).outcome) = some none := by
  decide +kernel

theorem witness_phases :
    (starting .asserted .powerOn).stc.phase = .asserted ∧ (starting .powerUpDelay .powerOn).stc.phase = .powerUpDelay
      ∧ State.reset.stc.phase ≠ .asserted ∧ State.reset.stc.phase ≠ .powerUpDelay
      ∧ State.reset.stc.phase ≠ .oscillatorCount := by decide

/-- Both ends of the station count, and a number at or above it. -/
theorem witness_StartValues :
    (starting .oscillatorCount .resetPin).stc.phase = .oscillatorCount
      ∧ (starting .oscillatorCount .resetPin).stc.pendingCause = some .resetPin
      ∧ Straps.wellFormed { number := 7, count := 8, offsetSelect := 7, gainSelect := 3 } = true
      ∧ Straps.wellFormed { number := 0, count := 3, offsetSelect := 1, gainSelect := 0 } = true
      ∧ Straps.wellFormed { number := 1, count := 1, offsetSelect := 0, gainSelect := 0 } = true := by decide

/-- R160: a start with phase offset select 6 leaves δ and θ at 715827883. -/
theorem test_R160_offset :
    (after (.oscillatorCountEnd { number := 7, count := 8, offsetSelect := 6, gainSelect := 0 })
        (starting .oscillatorCount .resetPin)).map (fun t => (t.ctb.delta, t.ctb.theta))
      = some (715827883, 715827883) := by decide +kernel

theorem witness_ResetIsTheStartState :
    (starting .oscillatorCount .powerOn).stc.phase = .oscillatorCount
      ∧ (starting .oscillatorCount .powerOn).stc.pendingCause = some .powerOn
      ∧ (starting .oscillatorCount .powerOn).freeCount = 0 ∧ (starting .oscillatorCount .powerOn).pending = [] := by
  decide

/-! ### Hypotheses are met: the sample event -/

/-- An ACTIVE step on an own wrap with a pending copy held, and on no wrap. -/
theorem witness_Advance :
    let s := inState .active (some nine) .live
    let t := (nearWrap s).setSyn { s.syn with pendingCopy := some (3, []) }
    t.ready ∧ t.ctb.divider ≤ 1599 ∧ t.undisputed ∧ t.ctb.nextAdvance.ownWrap = true
      ∧ t.syn.pendingCopy = some (3, []) ∧ t.syn.out ≠ .dark ∧ s.ready ∧ s.ctb.nextAdvance.ownWrap = false
      ∧ s.syn.pendingCopy = none ∧ State.reset.ready ∧ State.reset.syn.out = .dark
      ∧ State.reset.ctb.nextAdvance.commonWrap = false ∧ State.reset.ctb.c.natAbs ≤ State.reset.ctb.f >>> 10 :=
  ⟨readies (by decide), by decide, undisputed_of_calm rfl (by decide), by decide, rfl, by decide, readies (by decide),
    by decide, rfl, readies (by decide), rfl, by decide, by decide⟩

/-- An expected peer's record at the last age below freshness's end, and below loss with a step ACTIVE; LIVE, and
DARK with no error beyond 2^26. -/
theorem witness_Ageing :
    let s := nearWrap (withPeer0 (inState .active (some nine) .live) { present 0 with age := 7 })
    let t := nearWrap (withPeer0 (inState .idle none .dark) { present 67108864 with age := 2 })
    s.ready ∧ s.noCapture ∧ s.ctb.nextAdvance.commonWrap = true ∧ s.mayWork = true ∧ s.lossAhead
      ∧ (s.ptb.peer 0).state ≠ .absent ∧ (0 : Station) ≠ s.own ∧ t.ready ∧ t.noCapture
      ∧ t.ctb.nextAdvance.commonWrap = true ∧ t.mayWork = false ∧ min 255 ((t.ptb.peer 0).age + 1) = 3 :=
  ⟨readies (by decide), .inl (by decide), by decide, by decide, ⟨by decide, 0, by decide, by decide, by decide⟩,
    by decide, by decide, readies (by decide), .inr (by decide), by decide, by decide, by decide⟩

/-- A LIVE station between steps, ready, whose next advance is a wrap of both phases. -/
theorem witness_wrap :
    (nearWrap (inState .idle none .live)).ready ∧ (nearWrap (inState .idle none .live)).startsNothing
      ∧ (nearWrap (inState .idle none .live)).ctb.nextAdvance.commonWrap = true
      ∧ (nearWrap (inState .idle none .live)).ctb.nextAdvance.ownWrap = true
      ∧ (nearWrap (inState .idle none .live)).lnk.queue.length < 8
      ∧ incrementFits (nearWrap (inState .idle none .live)).ctb.f
      ∧ (nearWrap (inState .idle none .live)).ctb.c.natAbs ≤ (nearWrap (inState .idle none .live)).ctb.f >>> 10
      ∧ (inState .idle none .live).ctb.nextAdvance.commonWrap = false
      ∧ (inState .idle none .live).ctb.nextAdvance.ownWrap = false :=
  ⟨⟨by decide, by decide⟩, ⟨by decide, by decide, by decide⟩, by decide, by decide, by decide, ⟨by decide, by decide⟩,
    by decide, by decide, by decide⟩

/-- The queue of that station is in order. -/
theorem witness_ordered_one : (nearWrap (inState .idle none .live)).lnk.ordered := by
  refine ⟨by decide, by decide, ?_, by decide, by decide, ?_⟩
  · exact List.pairwise_singleton _ _
  · intro x h
    cases h

/-- The ends of the ranges of the increments. -/
theorem witness_EffectiveIncrementBounds :
    frequencyFits 4000 ∧ frequencyFits 7000 ∧ incrementFits 6710886 ∧ incrementFits 11744051
      ∧ (-6553 : Int).natAbs ≤ 6710886 >>> 10 ∧ (11468 : Int).natAbs ≤ 11744051 >>> 10 := by
  simp only [frequencyFits, incrementFits]
  decide

/-- No fresh record; a fresh record and an output that is not DARK; both lock states before. -/
theorem witness_LockEvaluation :
    State.reset.freshErrors = []
      ∧ (withPeer0 (inState .active none .live) (present 4194304)).freshErrors.map (·.2) = [4194304]
      ∧ (withPeer0 (inState .active none .live) (present 16777217)).freshErrors.map (·.2) = [16777217]
      ∧ (withPeer0 (inState .active none .live) (present 4194304)).syn.out ≠ .dark
      ∧ State.reset.lck.state ≠ .locked := by decide

/-- A DARK and IDLE station 1 with a fresh record of station 0 just beyond 2^26, and at −2^31. -/
theorem witness_Capture :
    let s := withPeer0 (inState .idle none .dark) (present 67108865)
    s.syn.out = .dark ∧ s.seq.state = .idle ∧ s.expectedPeer 0 = true ∧ (s.ptb.peer 0).fresh = true
      ∧ (s.ptb.peer 0).error = 67108865 ∧ (0 : Station).toNat < s.own.toNat
      ∧ (∀ m : Station, m.toNat < (0 : Station).toNat → (s.ptb.peer m).fresh = false)
      ∧ (67108865 : Int).natAbs > 2 ^ 26 ∧ (67108865 : Int).natAbs ≤ 2 ^ 31
      ∧ (-2147483648 : Int).natAbs ≤ 2 ^ 31 ∧ (s.evaluateLock 8388608).ctb.theta ≠ s.ctb.theta := by decide +kernel

/-- LIVE, no capture is made whatever the errors. -/
theorem witness_noCapture : (withPeer0 (inState .active none .live) (present 67108865)).noCapture := .inl (by decide)

/-! ### Hypotheses are met: the output code -/

/-- Sending order and amplitude of a profile entry at the ends of their ranges. -/
theorem witness_harmonic :
    (49150 ≤ 49150 ∧ (400 : Word16).toNat ≤ 400)
      ∧ [({ order := 2, amplitude := 0, phase := 0 } : ProfileEntry), { order := 50, amplitude := 400, phase := 65535 }].Perm
          [{ order := 50, amplitude := 400, phase := 65535 }, { order := 2, amplitude := 0, phase := 0 }] :=
  ⟨by decide, .swap _ _ _⟩

/-- Both ends of the table's index range, and the greatest amplitude. -/
theorem witness_SineTable : (1 ≤ 1 ∧ 1 ≤ 2047) ∧ (1 ≤ 2047 ∧ 2047 ≤ 2047) ∧ (32767 ≤ 32767 ∧ 15000 ≤ 15000)
    ∧ 49150 ≤ 49150 := by decide

/-- A lower slot that does not contain the angle, and the acting slot of each kind above it. -/
theorem witness_LowestReplacingSlotActs :
    (threeSlots.slot 1).actsAt 16500 = true ∧ (threeSlots.slot 4).actsAt 8000 = true
      ∧ (∀ j : OverlayIndex, j.toNat < 4 → (threeSlots.slot j).actsAt 8000 = false)
      ∧ (threeSlots.slot 6).actsAt 0 = true ∧ (∀ j : OverlayIndex, j.toNat < 6 → (threeSlots.slot j).actsAt 0 = false)
      ∧ (∀ j : OverlayIndex, (threeSlots.slot j).actsAt 57344 = false)
      ∧ threeSlots.slot 1 = .notch 0 16500 17500 ∧ threeSlots.slot 4 = .flattop 8000 8000 56000
      ∧ threeSlots.slot 6 = .force 0 60000 2000 := by decide +kernel

theorem witness_AdditiveTerms :
    (32767 ≤ 32767 ∧ (5000 : Word16).toNat ≤ 5000 ∧ 1024 ≤ 1024)
      ∧ (OverlaySlot.notch 0 0 0).window.isSome = true ∧ amplitude 32767 15000 1024 = 49150 := by decide

/-- A slot that is TONE, and one that is not. -/
theorem witness_Overlays :
    (Ovl.allOff.apply { slot := 2, arm := some (.tone 250000 5000) }).slot 2 = .tone 250000 419430400 5000 0
      ∧ ((Ovl.allOff.slot 2).kind ≠ .tone) ∧ ((3 : OverlayIndex) ≠ 2) := by decide

/-! ### Hypotheses are met: ramps -/

/-- A ramp of the level and of F in progress, at its last index; and a safe ramp-down at its last. -/
def ramping (index : Nat) : State :=
  let s := inState .idle none .live
  (s.setSyn { s.syn with ramp := some { start := 100, target := 15000, length := 4, index := index } }).setCtb
    { s.ctb with ramp := some { start := 8388608, target := 6710886, length := 4, index := index } }

/-- A safe ramp-down at an index. -/
def falling (index : Nat) : State :=
  let s := inState .idle none .falling
  s.setSyn { s.syn with safe := some { start := 15000, length := 64, index := index } }

theorem witness_ramps :
    (ramping 3).ready ∧ (ramping 3).noStart ∧ (ramping 3).syn.safe = none ∧ (3 < 4)
      ∧ (ramping 3).seq.state ≠ .frozen ∧ (falling 63).ready ∧ (falling 63).noStart ∧ (15000 ≤ 15000)
      ∧ (ramping 4).running = true ∧ (ramping 4).syn.rampDone = true ∧ (ramping 4).ctb.rampDone = true
      ∧ (ramping 3).syn.rampDone = false ∧ (ramping 3).ctb.rampDone = false
      ∧ (falling 64).running = true ∧ (falling 64).syn.out = .falling ∧ (64 ≤ 64) :=
  ⟨readies (by decide), noStart_of_state (by decide), rfl, by decide, by decide, readies (by decide),
    noStart_of_state (by decide), by decide, by decide, by decide, by decide, by decide, by decide, by decide,
    by decide, by decide⟩

/-- A FROZEN step with both ramps in progress. -/
theorem witness_frozen_ramp :
    let s := (ramping 1).setSeq { (ramping 1).seq with state := .frozen, image := some plainStep }
    s.ready ∧ s.noStart ∧ s.seq.state = .frozen :=
  ⟨readies (by decide), noStart_of_state (by decide), rfl⟩

theorem witness_ramp_bounds : (1 ≤ 1 ∧ 0 ≤ 1) ∧ (1 ≤ 65535 ∧ 65535 ≤ 65535) := by decide

/-! ### Hypotheses are met: starting and timing a step -/

/-- An ARMED step with its gates open, all of whose parts are present. -/
def richStep (ramp : Word16) : StepRecord :=
  { plainStep with
    level := some 7000, frequency := some 5100, ramp := ramp, duration := some 2, profile := some (some 3)
    markers := some { out0 := .high, out1 := .keep }, currentLimit := some 1, tripCycles := some 2
    tripPolicy := some .hold, overlays := [{ slot := 2, arm := some (.tone 12500 500) }] }

/-- ARMED with the await gate open. -/
def armed (r : StepRecord) (isOpen : Bool) : State :=
  let s := inState .armed (some r) .live
  s.setSeq { s.seq with awaitOpen := isOpen }

/-- GATHERING with a complete barrier whose start-angle test is being made. -/
def complete : State :=
  let r := { plainStep with joint := some { tag := 1, mask := 3, timeout := 1 } }
  let s := inState .gathering (some r) .live
  s.setJnt { s.jnt with gate := .complete, tag := 1, mask := 3, timeout := 1, angleTest := true }

theorem witness_StartSample :
    (armed (richStep 0) true).ready ∧ (armed (richStep 0) true).startsOn (richStep 0)
      ∧ (armed (richStep 0) true).undisputed
      ∧ (armed (richStep 4) true).ready ∧ (armed (richStep 4) true).startsOn (richStep 4) ∧ complete.ready
      ∧ complete.startsOn { plainStep with joint := some { tag := 1, mask := 3, timeout := 1 } } ∧ complete.undisputed :=
  ⟨readies (by decide), ⟨rfl, by decide, .inl ⟨rfl, rfl, rfl⟩⟩, undisputed_of_calm rfl (by decide),
    readies (by decide), ⟨rfl, by decide, .inl ⟨rfl, rfl, rfl⟩⟩, readies (by decide),
    ⟨rfl, by decide, .inr ⟨rfl, rfl, .inl rfl⟩⟩, undisputed_of_calm rfl (by decide)⟩

/-- A start sample of a step without `level` and without `frequency`, with both ramps in progress; and of one under
HOLD with a peer in trouble and none. -/
theorem witness_StartSample_bare :
    let ramps : State := (ramping 1).setSeq (armed plainStep true).seq
    let troubled (r : StepRecord) : State := (armed r true).setPtb ((armed r true).ptb.setPeer 3 { present 0 with tripped := true })
    ramps.ready ∧ ramps.startsOn plainStep ∧ ramps.undisputed ∧ plainStep.level = none ∧ plainStep.frequency = none
      ∧ ramps.syn.safe = none ∧ ramps.syn.ramp = some { start := 100, target := 15000, length := 4, index := 1 } ∧ 1 < 4
      ∧ ramps.ctb.ramp = some { start := 8388608, target := 6710886, length := 4, index := 1 }
      ∧ (armed plainStep true).syn.ramp = none ∧ (armed plainStep true).ctb.ramp = none
      ∧ (troubled (richStep 0)).ready ∧ (troubled (richStep 0)).startsOn (richStep 0)
      ∧ (troubled (richStep 0)).undisputed ∧ (3 : Station) ≠ (troubled (richStep 0)).own
      ∧ ((troubled (richStep 0)).ptb.peer 3).tripped = true
      ∧ (richStep 0).tripPolicy.getD .follow = .hold :=
  ⟨readies (by decide), ⟨rfl, by decide, .inl ⟨rfl, rfl, rfl⟩⟩, undisputed_of_calm rfl (by decide), rfl, rfl, rfl, rfl,
    by decide, rfl, rfl, rfl, readies (by decide), ⟨rfl, by decide, .inl ⟨rfl, rfl, rfl⟩⟩,
    undisputed_of_calm rfl (by decide), by decide, by decide, rfl⟩

/-- An ARMED step that waits for an angle of half a turn goes through a sample that is no start sample. -/
theorem witness_noStart :
    let s := armed { plainStep with startAngle := some 32768 } true
    s.ready ∧ s.noStart ∧ s.seq.state = .armed := by
  refine ⟨readies (by decide), ?_, rfl⟩
  rintro r ⟨h, k, _⟩
  cases h
  revert k
  decide

/-- The angle lies at the very end of the arc; a turn holds 512 advances of the default increment. -/
theorem witness_StartAngle :
    State.reset.ctb.fEff < 2 ^ 31 ∧ angleMet (some 128) State.reset.ctb.nextAdvance = true ∧ 1 ≤ 511
      ∧ (511 + 1) * State.reset.ctb.fEff ≤ 2 ^ 32 := by decide

/-- The awaited level is met and not met on the wrap, by a plain step and by a joint one. -/
theorem witness_AwaitGate :
    let r := { plainStep with await := some .in0High }
    let j := { r with joint := some { tag := 1, mask := 3, timeout := 1 } }
    (nearWrap (armed r false)).ready ∧ (nearWrap (armed j false)).ready ∧ (armed r false).seq.awaitOpen = false
      ∧ (nearWrap (armed r false)).undisputed ∧ (nearWrap (armed j false)).undisputed
      ∧ (armed r false).jnt.gate = .idle ∧ (nearWrap (armed r false)).ctb.nextAdvance.ownWrap = true
      ∧ (armed r false).ctb.nextAdvance.ownWrap = false ∧ awaitMet true false r.awaited = true
      ∧ awaitMet false false r.awaited = false :=
  ⟨readies (by decide), readies (by decide), rfl, undisputed_of_calm rfl (by decide),
    undisputed_of_calm rfl (by decide), rfl, by decide, by decide, by decide, by decide⟩

/-- An open ARMED step whose angle is not reached, a complete barrier on a common wrap before its angle, and SEQ at
rest in each of its other states, on samples that start nothing. -/
theorem witness_AwaitGate_keeps :
    let a := nearWrap (armed { plainStep with startAngle := some 32768 } true)
    let j := { plainStep with startAngle := some 32768, joint := some { tag := 1, mask := 3, timeout := 1 } }
    let g := nearWrap ((inState .gathering (some j) .live).setJnt { State.reset.jnt with gate := .complete })
    (a.ready ∧ a.noStart ∧ a.undisputed ∧ a.seq.retest = false ∧ a.seq.state = .armed ∧ a.seq.awaitOpen = true
        ∧ a.ctb.nextAdvance.ownWrap = true)
      ∧ (g.ready ∧ g.noStart ∧ g.undisputed ∧ g.ctb.nextAdvance.commonWrap = true ∧ g.jnt.gate = .complete)
      ∧ ∀ q ∈ [SeqState.idle, .held, .suspended, .tripped, .faulted],
          (nearWrap (inState q (some nine) .live)).ready ∧ (nearWrap (inState q (some nine) .live)).noStart
            ∧ (nearWrap (inState q (some nine) .live)).undisputed := by
  refine ⟨⟨readies (by decide), ?_, undisputed_of_calm rfl (by decide), rfl, rfl, rfl, by decide⟩,
    ⟨readies (by decide), ?_, undisputed_of_calm rfl (by decide), by decide, rfl⟩, ?_⟩
  · rintro r ⟨h, k, _⟩
    cases h
    revert k
    decide
  · rintro r ⟨h, k, _⟩
    cases h
    revert k
    decide
  · intro q h
    simp only [List.mem_cons, List.not_mem_nil, or_false] at h
    obtain rfl | rfl | rfl | rfl | rfl := h <;>
      exact ⟨readies (by decide), noStart_of_state (by decide), undisputed_of_calm rfl (by decide)⟩

/-- An ACTIVE step under HOLD whose records are tested again, with a peer in trouble and without. -/
def retested (trouble : Bool) : State :=
  let s := inState .active (some { plainStep with duration := some 9 }) .live
  let t := (s.setSeq { s.seq with retest := true }).setFtu { s.ftu with stepPolicy := some .hold }
  t.setPtb (t.ptb.setPeer 3 { present 0 with tripped := trouble })

theorem witness_DurationAndHoldRetest :
    (inState .active (some nine) .live).ready ∧ (inState .active (some nine) .live).undisputed
      ∧ (inState .frozen (some plainStep) .live).ready ∧ (inState .frozen (some plainStep) .live).undisputed
      ∧ (retested true).ready ∧ (retested false).ready
      ∧ (retested true).seq.retest = true ∧ ((retested true).ptb.peer 3).tripped = true
      ∧ (∀ trouble, (retested trouble).policyInForce = .hold ∧ ¬ (retested trouble).tripDisputed)
      ∧ (3 : Station) ≠ (retested true).own ∧ ¬ (retested false).lossAhead
      ∧ ∀ n, n ≠ (retested false).own →
          ((retested false).ptb.peer n).tripped = false ∧ ((retested false).ptb.peer n).state ≠ .lost :=
  ⟨readies (by decide), undisputed_of_calm rfl (by decide), readies (by decide), undisputed_of_calm rfl (by decide),
    readies (by decide), readies (by decide), rfl, by decide, fun _ => ⟨rfl, fun h => h.1.2.2.2.1 rfl⟩, by decide,
    fun h => absurd h.1 (by decide), by decide⟩

/-- A step in effect on the wrap that reaches the trip count. -/
def trips (q : SeqState) (r : StepRecord) : State :=
  (nearWrap (inState q (some r) .live)).setFtu
    { State.reset.ftu with phi := 1023, tripCycles := 1, stepPolicy := some .follow }

/-- No order is open between that trip and the sample, unless the sample ends the step. -/
theorem witness_trip_undisputed :
    (∀ q ∈ [SeqState.active, .frozen], (trips q nine).ready ∧ (trips q nine).tripAhead ∧ ¬ (trips q nine).endsNext
        ∧ (trips q nine).undisputed)
      ∧ (trips .active { plainStep with duration := some 1 }).ready
      ∧ (trips .active { plainStep with duration := some 1 }).tripAhead
      ∧ (trips .active { plainStep with duration := some 1 }).endsNext := by
  refine ⟨fun q h => ?_, readies (by decide),
    ⟨by decide, by decide, by decide, by decide, by decide, by decide, by decide⟩, by decide, by decide, _, rfl, by decide⟩
  simp only [List.mem_cons, List.not_mem_nil, or_false] at h
  obtain rfl | rfl := h
  all_goals
    refine ⟨readies (by decide), ⟨by decide, by decide, by decide, by decide, by decide, by decide, by decide⟩, ?_, ?_,
      fun h => no_loss (by decide) h.2⟩
    · rintro ⟨_, _, r, h, k⟩
      cases h
      revert k
      decide
    · rintro ⟨_, h | h | ⟨_, _, r, h, k⟩⟩
      · revert h
        decide
      · revert h
        decide
      · cases h
        revert k
        decide

/-- R151: an own trip of a step that goes on finds the cycle counted, and writes the step back with it. -/
theorem test_R151_counted :
    let sample := Instr.sampleEvent { voltage := 0, current := 0, in0 := false, in1 := false }
    (after sample (trips .active nine)).map (fun t => (t.seq.tally.cycles, t.ftu.foldedCycles, t.ftu.tripDue))
        = some (1, 1, true)
      ∧ (((after sample (trips .active nine)).bind (after .ownTrip)).bind fun t =>
          (t.pls.slot 0).outcome.map fun o => (o.endReason, o.cyclesMeasured, o.foldedCycles))
        = some (.tripped, 1, 1) := by decide +kernel

/-- A start sample on a wrap that closes a folded cycle at the trip count; and one on which an expected peer's
record reaches the age of loss, under each default policy. -/
theorem witness_Coincident_start :
    let s := nearWrap (armed (richStep 0) true)
    let t := s.setFtu { s.ftu with phi := 1023, tripCycles := 1 }
    let u (p : TripPolicy) := (withPeer0 s { present 0 with age := 7 }).setStc
      { (withPeer0 s { present 0 with age := 7 }).stc with setup := { Setup.default with policy := p } }
    t.ready ∧ t.startsOn (richStep 0) ∧ t.tripAhead ∧ ¬ t.lossAhead
      ∧ (∀ p, (u p).ready ∧ (u p).startsOn (richStep 0) ∧ ¬ (u p).tripAhead ∧ (u p).lossAhead
          ∧ (u p).stc.setup.policy = p ∧ (u p).expectedPeer 0 = true) := by
  refine ⟨readies (by decide), ⟨rfl, by decide, .inl ⟨rfl, rfl, rfl⟩⟩,
    ⟨by decide, by decide, by decide, by decide, by decide, by decide, by decide⟩, ?_, fun p => ?_⟩
  · rintro ⟨_, n, e, _⟩
    revert n
    decide
  · cases p <;> exact ⟨readies (by decide), ⟨rfl, by decide, .inl ⟨rfl, rfl, rfl⟩⟩, fun h => h.2.2.2.1 rfl,
      ⟨by decide, 0, by decide, by decide, by decide⟩, rfl, by decide⟩

/-- An own trip on the wrap of a loss, under FOLLOW; and a step ACTIVE under FOLLOW and under IGNORE on the wrap of a
loss, by samples and by cycles. -/
theorem witness_Coincident_counted :
    let cycles : StepRecord := { nine with unit := .cycles }
    let both := withPeer0 (trips .active nine) { present 0 with age := 7 }
    let loss (r : StepRecord) (p : TripPolicy) := (nearWrap (withPeer0 (inState .active (some r) .live)
      { present 0 with age := 7 })).setFtu { State.reset.ftu with stepPolicy := some p }
    (both.ready ∧ both.seq.image = some nine ∧ both.seq.retest = false ∧ both.tripAhead ∧ both.lossAhead
        ∧ both.policyInForce = .follow ∧ ¬ (trips .active nine).lossAhead ∧ ¬ (trips .frozen nine).lossAhead)
      ∧ (∀ p ∈ [TripPolicy.follow, .ignore], (loss nine p).ready ∧ (loss nine p).policyInForce = p
          ∧ ¬ (loss nine p).tripAhead ∧ ¬ (loss nine p).tripDisputed ∧ (loss nine p).lossAhead
          ∧ (loss nine p).ctb.nextAdvance.ownWrap = true
          ∧ (loss cycles p).ready ∧ ¬ (loss cycles p).tripAhead ∧ (loss cycles p).lossAhead) := by
  refine ⟨⟨readies (by decide), rfl, rfl,
    ⟨by decide, by decide, by decide, by decide, by decide, by decide, by decide⟩,
    ⟨by decide, 0, by decide, by decide, by decide⟩, rfl, no_loss (by decide), no_loss (by decide)⟩, fun p h => ?_⟩
  simp only [List.mem_cons, List.not_mem_nil, or_false] at h
  obtain rfl | rfl := h <;>
    exact ⟨readies (by decide), rfl, fun h => h.2.2.2.1 rfl, fun h => h.1.2.2.2.1 rfl,
      ⟨by decide, 0, by decide, by decide, by decide⟩, by decide, readies (by decide), fun h => h.2.2.2.1 rfl,
      ⟨by decide, 0, by decide, by decide, by decide⟩⟩

/-- The await gate of a plain and of a joint step on a wrap that samples the awaited level, with an own trip there, and
with a loss. -/
theorem witness_Coincident_gate :
    let r := { plainStep with await := some .in0High }
    let j := { r with joint := some { tag := 1, mask := 3, timeout := 1 } }
    let trip (x : StepRecord) := (nearWrap (armed x false)).setFtu { State.reset.ftu with phi := 1023, tripCycles := 1 }
    let loss (x : StepRecord) := nearWrap (withPeer0 (armed x false) { present 0 with age := 7 })
    ∀ x ∈ [r, j], awaitMet true false x.awaited = true
      ∧ ((trip x).ready ∧ (trip x).seq.awaitOpen = false ∧ (trip x).ctb.nextAdvance.ownWrap = true
          ∧ (trip x).seq.state = .armed ∧ (trip x).jnt.gate = .idle ∧ (trip x).tripAhead ∧ ¬ (trip x).lossAhead)
      ∧ ((loss x).ready ∧ (loss x).seq.awaitOpen = false ∧ (loss x).ctb.nextAdvance.ownWrap = true
          ∧ ¬ (loss x).tripAhead ∧ (loss x).lossAhead) := by
  intro r j trip loss x h
  simp only [List.mem_cons, List.not_mem_nil, or_false] at h
  obtain rfl | rfl := h <;>
    (refine ⟨by decide, ⟨readies (by decide), rfl, by decide, rfl, rfl,
      ⟨by decide, by decide, by decide, by decide, by decide, by decide, by decide⟩, ?_⟩, readies (by decide), rfl,
      by decide, fun h => h.2.2.2.1 rfl, ⟨by decide, 0, by decide, by decide, by decide⟩⟩
     rintro ⟨_, n, e, _⟩
     revert n
     decide)

/-- A step ACTIVE under HOLD on the wrap of a loss. -/
theorem witness_Coincident_hold :
    let s := nearWrap (withPeer0 (inState .active (some nine) .live) { present 0 with age := 7 })
    let t := s.setFtu { s.ftu with stepPolicy := some .hold }
    t.ready ∧ t.seq.state = .active ∧ t.seq.image = some nine ∧ t.seq.retest = false ∧ t.policyInForce = .hold
      ∧ ¬ t.tripDisputed ∧ t.lossAhead ∧ nine.unit = .samples :=
  ⟨readies (by decide), rfl, rfl, rfl, rfl, fun h => h.1.2.2.2.1 rfl,
    ⟨by decide, 0, by decide, by decide, by decide⟩, rfl⟩

/-! ### Hypotheses are met: measurement and fold-back -/

theorem witness_CycleLevel : (1 ≤ 1 ∧ 1 ≤ 1) ∧ (0 ^ 2 * 1 ≤ 0 ∧ 0 ≤ 32768)
    ∧ (nearWrap ((inState .idle none .live).setFbm { State.reset.fbm with samples := 1 })).ready
    ∧ (nearWrap State.reset).ctb.nextAdvance.ownWrap = true :=
  ⟨by decide, by decide, readies (by decide), by decide⟩

/-- A step in effect on a wrap; and the greatest sample count below saturation and the count at it, on no wrap. -/
theorem witness_Feedback :
    let s := nearWrap (inState .active (some nine) .live)
    let full (n : Nat) := (inState .active (some nine) .live).setFbm { s.fbm with samples := n, peakV := 7 }
    s.ready ∧ s.noStart ∧ s.inEffect = true ∧ s.ctb.nextAdvance.ownWrap = true ∧ s.undisputed
      ∧ (full 65534).ready ∧ (full 65534).fbm.samples < 65535 ∧ (full 65535).ready
      ∧ ¬ (full 65535).fbm.samples < 65535 ∧ (full 65535).ctb.nextAdvance.ownWrap = false :=
  ⟨readies (by decide), noStart_of_state (by decide), by decide, by decide, undisputed_of_calm rfl (by decide),
    readies (by decide), by decide, readies (by decide), by decide, by decide⟩

/-- R139: at 65,535 samples the sum and the count stop, and the peak follows. -/
theorem test_R139_full :
    let m : Fbm := { sumSquares := 5, samples := 65535, peakV := 7, peakI := 9, lastLrms := 0 }
    m.accumulate (-8) 3 = { m with peakV := 8 } := by decide

/-- A wrap with Φ below 1,024 while LIVE. -/
theorem witness_Fold :
    let s := nearWrap (inState .idle none .live)
    let t := s.setFtu { s.ftu with phi := 1023, tripCycles := 1 }
    t.ready ∧ t.noStart ∧ t.syn.out ≠ .dark ∧ t.ftu.phi < 1024 ∧ ¬ s.ftu.phi < 1024
      ∧ (nearWrap State.reset).ready ∧ (nearWrap State.reset).syn.out = .dark :=
  ⟨readies (by decide), noStart_of_state (by decide), by decide, by decide, by decide, readies (by decide), rfl⟩

/-! ### Hypotheses are met: ends of a step, peers, joint steps -/

theorem witness_StepEnd :
    let r := { plainStep with duration := some 2, holdAfter := true }
    (ending r false).running = true ∧ (ending r false).seq.state = .active ∧ (ending r false).seq.image = some r
      ∧ (2 : Word16).toNat ≤ (ending r false).seq.progress ∧ (ending plainStep true).seq.suspendLatch = true
      ∧ (ending plainStep false).seq.suspendLatch = false
      ∧ (ending plainStep false).seq.pointer + 1 ≠ (ending plainStep false).seq.pointer
      ∧ ((ending plainStep false).pls.slot 1).live = false := by decide

/-- The same with a live plain step in the next slot, awaiting nothing and not joint. -/
theorem witness_StepEnd_live :
    let s := (ending plainStep false).setPls (Pls.empty.setSlot 1 plainStep)
    s.pls.slot 1 = plainStep ∧ plainStep.live = true ∧ plainStep.kind = .normal ∧ plainStep.awaited = .none
      ∧ plainStep.joint = none := by decide +kernel

/-- A ring of one slot, whose step the write-back inside a loop leaves live: it is taken again. -/
theorem witness_StepEnd_itself :
    let r := { plainStep with wrap := true, duration := some 2 }
    let s := (ending r false).setPls (Pls.empty.setSlot 0 r)
    let t := s.setSeq { s.seq with loop := some { start := 0, remaining := 1 } }
    t.running = true ∧ t.seq.state = .active ∧ t.seq.image = some r ∧ r.wrap = true ∧ t.seq.ringStart = t.seq.pointer
      ∧ ((t.pls.slot 0).written true .completed Pass.none).live = true := by decide +kernel

/-- A joint step that awaits nothing in the next slot; and a LOOP_BEGIN there, inside an open loop. -/
theorem witness_StepEnd_joint_nested :
    let j := { plainStep with joint := some { tag := 1, mask := 3, timeout := 1 } }
    let s := (ending plainStep false).setPls (Pls.empty.setSlot 1 j)
    let t := (ending plainStep false).setPls (Pls.empty.setSlot 1 loopBegin)
    let u := t.setSeq { t.seq with loop := some { start := 0, remaining := 0 } }
    s.pls.slot 1 = j ∧ j.awaited = .none ∧ j.kind = .normal ∧ u.pls.slot 1 = loopBegin ∧ u.seq.loop ≠ none
      ∧ u.running = true := by decide +kernel

/-- A slot with no outcome, one with an outcome that has a range and one that has none, and another slot. -/
theorem witness_WriteBack :
    let r := { plainStep with outcome := some { stepOutcome with lrms := some { lowest := 1, highest := 2 } } }
    let p := (Pls.empty.setSlot 1 r).setSlot 2 { plainStep with outcome := some stepOutcome }
    (p.slot 0).outcome = none ∧ (p.slot 1).outcome = some { stepOutcome with lrms := some { lowest := 1, highest := 2 } }
      ∧ (p.slot 2).outcome = some stepOutcome ∧ (1 : Slot) ≠ 0 ∧ Pass.none.lrms = none := by decide +kernel

theorem witness_Loops :
    (∀ i, (Pls.slot { Pls.empty with ring := Vector.replicate 256 loopEnd } i).live = true
        ∧ (Pls.slot { Pls.empty with ring := Vector.replicate 256 loopEnd } i).kind = .loopEnd)
      ∧ (let s := inState .active none .live
         let t := s.setSeq { s.seq with markerLimit := true }
         t.running = true ∧ t.seq.markerLimit = true ∧ t.seq.image = none ∧ t.seq.state ≠ .faulted
           ∧ t.seq.state ≠ .gathering ∧ t.syn.out = .live)
      ∧ loopBegin.live = true ∧ loopBegin.kind = .loopBegin ∧ plainStep.kind = .normal
      ∧ StepRecord.empty.live = false := by
  refine ⟨fun i => ?_, by decide⟩
  simp [Pls.slot, loopEnd, plainStep]

/-- A RELEASE whose taking finds a dead slot, a step, a LOOP_BEGIN inside a loop, and 1,024 markers: a loop of 255
passes, whose LOOP_END is its own first slot, entered again from a ring of one LOOP_BEGIN and one LOOP_END. -/
theorem witness_Release_walks :
    let s := heardBy (inState .held (some plainStep) .live)
    let begin' := Pls.empty.setSlot 1 { loopBegin with loopCount := 255 }
    let ring := begin'.setSlot 2 { loopEnd with wrap := true }
    s.running = true ∧ s.due = false ∧ s.lnk.assembling = true ∧ s.seq.state = .held
      ∧ s.seq.image = some plainStep ∧ s.seq.suspendLatch = false
      ∧ (walk Pls.empty 0 1024 1 none).found = .dry
      ∧ (walk (Pls.empty.setSlot 1 plainStep) 0 1024 1 none).found = .step plainStep
      ∧ (walk begin' 0 1024 1 (some { start := 0, remaining := 1 })).found = .nested
      ∧ (walk ring 1 1024 1 none).found = .limit := by decide +kernel

theorem witness_OwnTrip :
    let t (q : SeqState) (r : Option StepRecord) :=
      (inState q r .live).setFtu { State.reset.ftu with tripDue := true }
    (∀ q ∈ [SeqState.active, .frozen, .held], (t q (some plainStep)).running = true
        ∧ (t q (some plainStep)).ftu.tripDue = true ∧ (t q (some plainStep)).seq.image = some plainStep
        ∧ (t q (some plainStep)).seq.markerLimit = false ∧ (t q (some plainStep)).seq.state = q)
      ∧ (∀ q ∈ [SeqState.armed, .suspended, .idle], (t q none).running = true ∧ (t q none).ftu.tripDue = true
          ∧ (t q none).seq.state = q)
      ∧ (let g := (t .gathering (some plainStep)).setJnt { State.reset.jnt with gate := .opened }
         g.running = true ∧ g.ftu.tripDue = true ∧ g.seq.state = .gathering ∧ g.jnt.gate ≠ .idle)
      ∧ (let m := (t .active none).setSeq { (t .active none).seq with markerLimit := true }
         m.running = true ∧ m.ftu.tripDue = true ∧ m.seq.markerLimit = true)
      ∧ State.reset.running = true ∧ State.reset.ftu.tripDue = false := by decide

/-- A record at the age of loss under each policy in force and in an excluded state, and one below it. -/
theorem witness_PeerLost :
    let s (q : SeqState) (r : Option StepRecord) (o : OutState) := withPeer0 (inState q r o) { present 0 with age := 8 }
    let p (x : TripPolicy) := (s .active (some nine) .live).setFtu { State.reset.ftu with stepPolicy := some x }
    let d := s .idle none .dark
    d.running = true ∧ d.endingStep = none ∧ d.seq.markerLimit = false ∧ (0 : Station).toNat < d.count
      ∧ (0 : Station) ≠ d.own ∧ (d.ptb.peer 0).state = .present ∧ 8 ≤ (d.ptb.peer 0).age ∧ d.jnt.gate = .idle
      ∧ d.lossDue 0 = true
      ∧ (withPeer0 (inState .idle none .dark) { present 0 with age := 7 }).lossDue 0 = false
      ∧ d.lck.waiting = none ∧ (d.setLck { d.lck with waiting := some 8388608 }).lck.waiting = some 8388608
      ∧ (d.setLck { d.lck with waiting := some 8388608 }).lossDue 0 = true
      ∧ (∀ x ∈ [TripPolicy.follow, .hold, .ignore], (p x).running = true ∧ (p x).endingStep = none
          ∧ (p x).seq.markerLimit = false ∧ (p x).policyInForce = x ∧ (p x).seq.state = .active
          ∧ (p x).jnt.gate ≠ .opened ∧ (p x).own = 1 ∧ (p x).count = 3 ∧ 8 ≤ ((p x).ptb.peer 0).age) := by
  decide +kernel

/-- An ACTIVE station that a peer's trip reaches, under each policy in force. -/
theorem witness_TripReceived :
    let s := heardBy (inState .active (some nine) .live)
    let p (x : TripPolicy) := s.setFtu { s.ftu with stepPolicy := some x }
    s.hearing ∧ (1 : Station) ≠ s.own ∧ (s.ptb.peer 1).tripped = false ∧ s.jnt.gate = .idle
      ∧ ¬ (s.seq.state = .tripped ∨ s.seq.state = .faulted ∨ (s.seq.state = .idle ∧ s.syn.out = .dark))
      ∧ (p .follow).policyInForce = .follow ∧ (p .hold).policyInForce = .hold ∧ (p .ignore).policyInForce = .ignore
      ∧ (heardBy (inState .tripped none .dark)).hearing :=
  ⟨hears (by decide), by decide, by decide, rfl, by decide, by decide, by decide, by decide, hears (by decide)⟩

/-- A station IDLE with the output DARK; and an ACTIVE one, and one whose gate is OPEN, that hear a peer whose flag is
set already. -/
theorem witness_TripReceived_nothing :
    let dark := heardBy (inState .idle none .dark)
    let again (s : State) := (heardBy s).setPtb ((heardBy s).ptb.setPeer 1 { present 0 with tripped := true })
    let open' := (inState .gathering (some nine) .live).setJnt { State.reset.jnt with gate := .opened, timeout := 1 }
    dark.hearing ∧ (dark.ptb.peer 1).tripped = false ∧ dark.jnt.gate = .idle ∧ dark.seq.state = .idle
      ∧ dark.syn.out = .dark ∧ (1 : Station) ≠ dark.own
      ∧ (again (inState .active (some nine) .live)).hearing
      ∧ ((again (inState .active (some nine) .live)).ptb.peer 1).tripped = true
      ∧ (again open').hearing ∧ (again open').jnt.gate = .opened ∧ ((again open').ptb.peer 1).tripped = true :=
  ⟨hears (by decide), by decide, rfl, rfl, rfl, by decide, hears (by decide), by decide, hears (by decide), rfl,
    by decide⟩

/-- FROZEN for the trip of station 1 alone, or for its loss. -/
theorem witness_Thaw :
    let s := heardBy (inState .frozen (some plainStep) .live)
    let t := s.setPtb (s.ptb.setPeer 1 { present 0 with tripped := true })
    t.hearing ∧ (t.ptb.peer 1).tripped = true ∧ (t.ptb.peer 1).state ≠ .lost
      ∧ (∀ m, m ≠ t.own → m ≠ 1 → (t.ptb.peer m).tripped = false ∧ (t.ptb.peer m).state ≠ .lost)
      ∧ SeqState.idle ≠ .tripped
      ∧ ((s.setPtb (s.ptb.setPeer 1 { present 0 with state := .lost })).ptb.peer 1).state = .lost
      ∧ (s.setPtb (s.ptb.setPeer 1 { present 0 with state := .lost })).hearing
      ∧ ({ age := 1, lock := .locked, seq := .idle, out := .dark, slot := 0 } : MarkFields).seq ≠ .tripped :=
  ⟨hears (by decide), by decide, by decide, by decide, by decide, by decide, hears (by decide), by decide⟩

/-- An expected peer at the edge of the count, one outside it, and a latch before and after a capture. -/
theorem witness_MarkReceived :
    let s := heardBy (withPeer0 (inState .idle none .dark) (present 0))
    s.hearing ∧ (2 : Station) ≠ s.own ∧ (2 : Station).toNat < s.count ∧ s.lnk.latch.captured = false
      ∧ ¬ (3 : Station).toNat < s.count
      ∧ (s.setLnk { s.lnk with latch := { s.lnk.latch with captured := true } }).lnk.latch.captured = true :=
  ⟨hears (by decide), by decide, by decide, rfl, by decide, rfl⟩

/-- A station with a frame of its own in the shifter, hearing it. -/
def sending (s : State) (p : Payload) : State :=
  (heardBy s).setLnk { (heardBy s).lnk with shifter := some { entry := entry 0 p, payload := p, discard := false } }

/-- The station's own frame of each kind in its shifter; an empty shifter; a foreign number; and a number that is
its own while it is GATHERING. -/
theorem witness_OwnNumber :
    let m : MarkFields := { age := 1, lock := .alone, seq := .idle, out := .dark, slot := 0 }
    let j := { plainStep with joint := some { tag := 1, mask := 3, timeout := 1 } }
    let g := heardBy (inState .gathering (some j) .live)
    (∀ p ∈ [Payload.mark m, .trip .foldback 0, statusFrame, .result 0 false stepOutcome, answerFrame
          , .stepCopy 0 StepRecord.empty],
        (sending State.reset p).hearing ∧ ∃ x, (sending State.reset p).lnk.shifter = some x ∧ x.payload = p)
      ∧ (heardBy State.reset).hearing ∧ (heardBy State.reset).lnk.shifter = none
      ∧ State.reset.seq.state ≠ .faulted ∧ State.reset.seq.state ≠ .frozen ∧ (1 : Station) ≠ State.reset.own
      ∧ (8 : NodeNumber).toNat ≠ State.reset.own.toNat
      ∧ (g.setJnt { g.jnt with gate := .opened, timeout := 1 }).hearing ∧ g.seq.state = .gathering :=
  ⟨fun _ _ => ⟨hears rfl, _, rfl, rfl⟩, hears (by decide), rfl, by decide, by decide, by decide, by decide,
    hears (by decide), rfl⟩

/-- The station FROZEN for the trip of another, hearing a TRIP and a STATUS of its own. -/
theorem witness_OwnNumber_frozen :
    let s (p : Payload) := sending (inState .frozen (some plainStep) .live) p
    let t (p : Payload) := (s p).setPtb ((s p).ptb.setPeer 1 { present 0 with tripped := true })
    ∀ p ∈ [Payload.trip .foldback 0, statusFrame], (t p).hearing ∧ (t p).seq.state = .frozen
      ∧ (∃ x, (t p).lnk.shifter = some x ∧ x.payload = p)
      ∧ ∃ n, n ≠ (t p).own ∧ (((t p).ptb.peer n).tripped = true ∨ ((t p).ptb.peer n).state = .lost) := by
  intro s t p h
  simp only [List.mem_cons, List.not_mem_nil, or_false] at h
  obtain rfl | rfl := h <;> exact ⟨hears rfl, rfl, ⟨_, rfl, rfl⟩, 1, by decide, .inl (by decide)⟩

/-- A frame of each kind under the station's own number that it has not sent: heard with an empty shifter and with
another frame in it; with a step in effect, HELD, and already FAULTED. -/
theorem witness_Duplicates :
    let m : MarkFields := { age := 1, lock := .alone, seq := .idle, out := .dark, slot := 0 }
    let frames : List Instr := [.markReceived 0 m, .tripReceived 0 .followed 3, .joinReceived 0 1 3
      , .withdrawReceived 0 1 .timeout, .statusReceived 0 .started .active, .replyFrameReceived 0 .result]
    (∀ c ∈ frames, c.stationFrom = some State.reset.own ∧ (Payload.trip .foldback 0).heard 0 ≠ c)
      ∧ (∀ q ∈ [SeqState.active, .frozen, .held, .faulted], (heardBy (inState q (some nine) .live)).hearing)
      ∧ (sending State.reset (.trip .foldback 0)).hearing
      ∧ (heardBy (inState .active (some nine) .live)).lnk.shifter = none := by
  refine ⟨by decide, fun q h => ?_, hears (by decide), rfl⟩
  simp only [List.mem_cons, List.not_mem_nil, or_false] at h
  obtain rfl | rfl | rfl | rfl := h <;> exact hears (by decide)

/-- A barrier in each of its gates. -/
def gathering (g : GateState) : State :=
  let r := { plainStep with joint := some { tag := 1, mask := 3, timeout := 1 } }
  let s := inState .gathering (some r) .live
  s.setJnt { s.jnt with gate := g, tag := 1, mask := 3, timeout := 1, ownJoin := true }

theorem witness_Barrier :
    (∀ g ∈ [GateState.opened, .withdrawing, .complete], (heardBy (gathering g)).hearing ∧ (gathering g).jnt.gate = g)
      ∧ (1 : Station) ≠ (gathering .opened).own ∧ (gathering .opened).seq.image.isSome = true
      ∧ (gathering .opened).jnt.tag = 1 ∧ (2 : Tag) ≠ (gathering .opened).jnt.tag
      ∧ maskHas (gathering .opened).jnt.mask 1 = true ∧ maskHas (gathering .opened).jnt.mask 2 = false
      ∧ (∀ p ∈ [Payload.join 1 3, .withdraw 1 .timeout], (sending (gathering .opened) p).hearing
          ∧ ∃ x, (sending (gathering .opened) p).lnk.shifter = some x ∧ x.payload = p) := by
  refine ⟨?_, by decide, by decide, rfl, by decide, by decide, by decide, ?_⟩
  · intro g h
    simp only [List.mem_cons, List.not_mem_nil, or_false] at h
    obtain rfl | rfl | rfl := h <;> exact ⟨hears (by decide), rfl⟩
  · intro p h
    simp only [List.mem_cons, List.not_mem_nil, or_false] at h
    obtain rfl | rfl := h <;> exact ⟨hears (by decide), _, rfl, rfl⟩

/-- The last JOIN of a barrier of the two stations, from the other and from the station itself; and one that still
lacks the other's. -/
theorem witness_Completion :
    let tagged (r : PeerRecord) : PeerRecord := { r with joinTag := some 1 }
    let s := heardBy (gathering .opened)
    let t := s.setPtb (s.ptb.setPeer 0 (tagged PeerRecord.own))
    (after (.joinReceived 1 1 3) t).map (·.jnt.gate) = some .complete
      ∧ (after (.joinReceived 1 2 3) t).map (·.jnt.gate) = some .opened
      ∧ (after (.joinReceived 1 1 3) s).map (·.jnt.gate) = some .opened := by decide +kernel

/-- The timeout reached on the wrap that makes the elapsed wraps equal to it, and not the wrap before. -/
theorem witness_Timeout :
    let s := (gathering .opened).setCtb { (gathering .opened).ctb with commonCycles := 1 }
    s.running = true ∧ s.jnt.gate = .opened ∧ s.jnt.timeout ≤ (s.ctb.commonCycles - s.jnt.entry).toNat
      ∧ ((gathering .opened).ctb.commonCycles - (gathering .opened).jnt.entry).toNat
          < (gathering .opened).jnt.timeout := by decide

/-- A masked peer's trip heard in GATHERING, and its loss, under FOLLOW and under HOLD; and one outside the mask. -/
theorem witness_MaskedTrouble :
    let h := heardBy (gathering .opened)
    let under (p : TripPolicy) (s : State) := s.setStc { s.stc with setup := { s.stc.setup with policy := p } }
    let l := withPeer0 (gathering .opened) { present 0 with age := 8 }
    (∀ p ∈ [TripPolicy.follow, .hold], (under p h).policyInForce = p ∧ (under p l).policyInForce = p
        ∧ (under p h).seq.state = .gathering ∧ (under p h).jnt.gate = .opened)
      ∧ h.hearing ∧ (1 : Station) ≠ h.own ∧ (h.ptb.peer 1).tripped = false ∧ maskHas h.jnt.mask 1 = true
      ∧ maskHas h.jnt.mask 2 = false ∧ l.running = true ∧ l.lossDue 0 = true ∧ l.seq.markerLimit = false
      ∧ (0 : Station) ≠ l.own ∧ maskHas l.jnt.mask 0 = true :=
  ⟨by decide, hears (by decide), by decide, by decide, by decide, by decide, by decide, by decide, by decide,
    by decide, by decide⟩

/-! ### Hypotheses are met: the station link -/

/-- An idle line with an empty shifter and a queue. -/
def idleLine (q : List TxEntry) : State :=
  State.reset.setLnk { State.reset.lnk with lineIdle := true, queue := q }

theorem witness_Line :
    (idleLine []).ready ∧ (idleLine []).lnk.assembling = false ∧ (idleLine []).ctb.divider + 1599 ≤ 1599
      ∧ (idleLine []).lnk.lineIdle = true ∧ State.reset.lnk.lineIdle = false
      ∧ (heardBy State.reset).hearing ∧ (heardBy State.reset).lnk.ownAborted = false
      ∧ ((heardBy State.reset).setLnk { (heardBy State.reset).lnk with ownAborted := true }).hearing
      ∧ Instr.badFrame.isFrame = true ∧ (Instr.query node9).isFrame = true :=
  ⟨readies (by decide), rfl, by decide, rfl, rfl, hears (by decide), rfl, hears (by decide), rfl, rfl⟩

/-- A frame, a MARK of the greatest age, a stale one alone at the head of the queue, and one with a STATUS behind. -/
theorem witness_TransmitStart :
    let stale : TxEntry := { order := 0, item := .mark 0 }
    let late (q : List TxEntry) := (idleLine q).setCtb { State.reset.ctb with tick := 65536 }
    (idleLine [entry 3 answerFrame]).ready ∧ (late [{ order := 0, item := .mark 1 }]).ready
      ∧ (idleLine []).ready ∧ (idleLine []).lnk.shifter = none ∧ ((65536 : Tick) + 0#32 - 1).toNat ≤ 65535
      ∧ 65535 < ((65536 : Tick) + 0#32 - 0).toNat ∧ (late [stale]).ready ∧ (late [stale, entry 1 statusFrame]).ready :=
  ⟨readies (by decide), readies (by decide), readies (by decide), rfl, by decide, by decide, readies (by decide),
    readies (by decide)⟩

/-- The full queue of section 6.5.1 is in order, and meets each case of an offer. -/
theorem witness_Offers :
    fullQueue.ordered ∧ fullQueue.queue.length = 8 ∧ (∃ x ∈ fullQueue.queue, statusFrame.cls < x.cls)
      ∧ (∀ x ∈ fullQueue.queue, x.cls ≤ answerFrame.cls) ∧ State.reset.lnk.queue.length < 8 := by
  refine ⟨⟨by decide, by decide, ?_, by decide, by decide, ?_⟩, by decide, by decide, by decide, by decide⟩
  · simp [fullQueue, List.pairwise_cons, TxEntry.before, TxEntry.cls, Payload.cls, entry, statusFrame, answerFrame]
  · intro x h
    cases h

/-- A queue with a MARK between two other entries. -/
theorem witness_MarkReplaced :
    fullQueue.queue = [entry 12 (.withdraw 1 .timeout)] ++ { order := 9, item := .mark 0 }
        :: fullQueue.queue.drop 2
      ∧ ∀ e ∈ [entry 12 (.withdraw 1 .timeout)] ++ fullQueue.queue.drop 2, e.isMark = false := by
  refine ⟨rfl, by decide⟩

/-- A frame and a MARK in the shifter, over a queue without and with a MARK. -/
theorem witness_Aborted :
    let x : Shifter := { entry := entry 0 answerFrame, payload := answerFrame, discard := false }
    let y : Shifter := { x with entry := { order := 0, item := .mark 0 } }
    let s := State.reset.setLnk { State.reset.lnk with queue := [entry 3 statusFrame], shifter := some x, nextOrder := 4 }
    let t := State.reset.setLnk { fullQueue with shifter := some y }
    s.ready ∧ s.lnk.ordered ∧ s.lnk.queue.length < 8 ∧ x.entry.isMark = false ∧ t.ready ∧ y.entry.isMark = true
      ∧ ∃ e ∈ t.lnk.queue, e.isMark = true := by
  refine ⟨⟨by decide, by decide⟩, ⟨by decide, by decide, ?_, by decide, by decide, ?_⟩, by decide, by decide,
    ⟨by decide, by decide⟩, by decide, ⟨{ order := 9, item := .mark 0 }, by decide, by decide⟩⟩
  · exact List.pairwise_singleton _ _
  · rintro x ⟨⟩
    decide

/-- A frame returns to the full queue of section 6.5.1: a STATUS, with entries of greater classes there, and an ANSWER,
with none. -/
theorem witness_Aborted_full :
    let s (p : Payload) := withLnk State.reset { fullQueue with shifter := some { entry := entry 1 p, payload := p, discard := false } }
    (s statusFrame).ready ∧ (s statusFrame).lnk.ordered ∧ (s statusFrame).lnk.queue.length = 8
      ∧ (∃ y ∈ (s statusFrame).lnk.queue, (entry 1 statusFrame).cls < y.cls)
      ∧ (s answerFrame).ready ∧ (s answerFrame).lnk.ordered
      ∧ ∀ y ∈ (s answerFrame).lnk.queue, y.cls ≤ (entry 1 answerFrame).cls := by
  refine ⟨readies (by decide), ?_, rfl, by decide, readies (by decide), ?_, by decide⟩
  all_goals
    refine ⟨by decide, by decide, witness_Offers.1.2.2.1, by decide, by decide, ?_⟩
    rintro x ⟨⟩
    decide

/-! ### Hypotheses are met: the requests -/

/-- SETUP values with every code in range, and a policy that names none. -/
theorem witness_Setup :
    (heardBy State.reset).hearing ∧ State.reset.seq.state = .idle ∧ State.reset.syn.out = .dark
      ∧ State.reset.stc.energized = false ∧ nameOf tripPolicies (2 : Byte) = some TripPolicy.ignore
      ∧ 2 < (3 : Byte).toNat ∧ (heardBy (inState .held (some plainStep) .live)).hearing
      ∧ (inState .held (some plainStep) .live).seq.state ≠ .idle :=
  ⟨hears (by decide), rfl, rfl, rfl, rfl, by decide, hears (by decide), by decide⟩

/-- A write to the current slot; each refusal that a small record shows; values at both sides of their bounds; a
loop marker; and the empty record, whose `duration` and `await` are stored as R53 and R54 say. -/
theorem witness_StepWrite :
    let stored := { plainStep with duration := some 0, await := some .none }
    ((inState .held (some plainStep) .live).seq.pointer = 0
        ∧ (inState .held (some plainStep) .live).seq.state = .held)
      ∧ storeRecord 0 1 { rawEmpty with overlays := List.replicate 5 rawDisarm } = none
      ∧ storeRecord 0 1 { rawEmpty with joint := some { tag := 0, mask := 3, timeout := 1 } } = none
      ∧ storeRecord 0 1 { rawEmpty with kind := 3 } = none
      ∧ storeRecord 0 1 { rawEmpty with await := some 5 } = none
      ∧ storeRecord 0 1 { rawEmpty with overlays := [{ rawDisarm with slot := 8 }] } = none
      ∧ storeRecord 0 1 { rawEmpty with level := some 15001 } = some ({ stored with level := some 15000 }, true)
      ∧ storeRecord 0 1 { rawEmpty with level := some 15000 } = some ({ stored with level := some 15000 }, false)
      ∧ storeRecord 0 1 { rawEmpty with kind := 1, loopCount := 3, level := some 9 } = some (loopBegin, false)
      ∧ storedRecord rawEmpty = stored := by
  decide +kernel

/-- What is refused, what is out of range, and what is neither. -/
theorem witness_StepWrite_ranges :
    recordRefused 0 1 { rawEmpty with kind := 3 } ∧ ¬ recordRefused 0 1 rawEmpty
      ∧ recordOutOfRange { rawEmpty with level := some 15001 } ∧ ¬ recordOutOfRange rawEmpty
      ∧ ¬ recordOutOfRange { rawEmpty with level := some 15000 } := by
  refine ⟨by simp [recordRefused], ?_, ?_, ?_, ?_⟩ <;> simp [recordRefused, recordOutOfRange, partIs, rawEmpty]

/-- The ends of the index and count ranges; the profile in force, a pending copy, and neither. -/
theorem witness_ProfileWrite :
    7 < (8 : Byte).toNat ∧ 12 < (13 : Byte).toNat ∧ (7 : Byte).toNat = (7 : ProfileIndex).toNat
      ∧ (12 : Byte).toNat ≤ 12 ∧ (heardBy State.reset).hearing
      ∧ (State.reset.setSyn { State.reset.syn with profile := some 7 }).syn.profile = some 7
      ∧ (heardBy (State.reset.setSyn { State.reset.syn with pendingCopy := some (7, []) })).hearing
      ∧ State.reset.syn.profile ≠ some 7 :=
  ⟨by decide, by decide, by decide, by decide, hears (by decide), rfl, hears (by decide), by decide⟩

/-- R113: the summary of a LIVE, ACTIVE station reports its fields, the kind of each slot and each peer's record. -/
theorem test_R113_summary :
    let s := (inState .active (some nine) .live).setOvl threeSlots
    let t := s.setPtb (s.ptb.setPeer 3 { present 0 with tripped := true })
    let y := (t.setSyn { t.syn with pendingCopy := some (3, []) }).summary .query
    (y.cause, y.seq, y.out, y.level, y.holdsSlot, y.pendingHeld) = (.query, .active, .live, 100, true, true)
      ∧ y.overlayKinds.toList = [.off, .notch, .off, .off, .flattop, .off, .force, .off]
      ∧ y.peers[3]? = some (.present, true) ∧ y.peers[4]? = some (.absent, false) := by decide +kernel

theorem witness_Requests : node9.toAll = false ∧ all9.toAll = true ∧ (heardBy State.reset).hearing :=
  ⟨rfl, rfl, hears (by decide)⟩

/-- A lone station may RUN, from IDLE onto a dead slot and from SUSPENDED onto a plain step. -/
theorem witness_Run :
    State.reset.seq.state = .idle ∧ State.reset.syn.out ≠ .falling
      ∧ (∀ m : Station, m.toNat < State.reset.count → m ≠ State.reset.own →
          (State.reset.ptb.peer m).state = .present ∧ (State.reset.ptb.peer m).reported ≠ .tripped
            ∧ (State.reset.ptb.peer m).reported ≠ .faulted)
      ∧ (State.reset.count = 1 ∧ State.reset.lck.state = .alone) ∧ (State.reset.pls.slot 0).live = false
      ∧ (heardBy (inState .suspended none .live)).hearing ∧ (heardBy State.reset).hearing ∧ holdsSlot (inState .held (some plainStep) .live).seq.state = true
      ∧ (inState .tripped none .dark).seq.state = .tripped
      ∧ ((inState .suspended none .live).setPls (Pls.empty.setSlot 0 plainStep)).pls.slot 0 = plainStep
      ∧ plainStep.live = true ∧ plainStep.kind = .normal ∧ plainStep.awaited = .none ∧ plainStep.joint = none := by
  refine ⟨rfl, by decide, by decide, ⟨rfl, rfl⟩, by decide, hears (by decide), hears (by decide), by decide, rfl,
    by decide +kernel, rfl, rfl, rfl, rfl⟩

/-- An accepted RUN sets the latch, and a state with the latch set goes on from any command. -/
theorem witness_Latch :
    (∃ t, exec (.run node9 none) (heardBy State.reset) = .next t ∧ (heardBy State.reset).stc.energized = false
        ∧ t.stc.energized = true)
      ∧ ∃ t, exec .lineIdle (State.reset.setStc { State.reset.stc with energized := true }) = .next t
          ∧ (State.reset.setStc { State.reset.stc with energized := true }).stc.energized = true :=
  ⟨⟨_, rfl, rfl, by decide +kernel⟩, ⟨_, rfl, rfl⟩⟩

/-- HELD with a SUSPEND latched and without, a dead and a live next slot; and the other states that hold a step. -/
theorem witness_SuspendRelease :
    (∀ q ∈ [SeqState.held, .armed, .frozen], (heardBy (inState q (some nine) .live)).hearing)
      ∧ (heardBy (inState .active (some nine) .live)).hearing ∧ (heardBy (gathering .opened)).hearing
      ∧ (inState .held (some plainStep) .live).seq.image = some plainStep
      ∧ (inState .held (some plainStep) .live).seq.suspendLatch = false
      ∧ ((inState .held (some plainStep) .live).pls.slot 1).live = false
      ∧ ((inState .held (some plainStep) .live).setPls (Pls.empty.setSlot 1 plainStep)).pls.slot 1 = plainStep
      ∧ (let s := heardBy (inState .held (some plainStep) .live)
         let t := s.setSeq { s.seq with suspendLatch := true }
         t.hearing ∧ t.seq.state = .held ∧ t.seq.suspendLatch = true) := by
  refine ⟨?_, hears (by decide), hears (by decide), rfl, rfl, by decide, by decide +kernel, ⟨hears (by decide), rfl, rfl⟩⟩
  intro q h
  simp only [List.mem_cons, List.not_mem_nil, or_false] at h
  obtain rfl | rfl | rfl := h <;> exact hears (by decide)

theorem witness_Abort :
    (heardBy (inState .frozen (some plainStep) .live)).hearing ∧ (inState .frozen (some plainStep) .live).syn.out = .live
      ∧ (heardBy (inState .idle none .dark)).hearing ∧ (heardBy (inState .suspended none .live)).hearing
      ∧ (heardBy (inState .idle none .live)).hearing ∧ (heardBy (inState .held (some plainStep) .live)).hearing
      ∧ (inState .held (some plainStep) .live).seq.image = some plainStep
      ∧ (heardBy (gathering .opened)).hearing ∧ (gathering .opened).jnt.gate ≠ .idle
      ∧ (heardBy (inState .faulted none .dark)).hearing :=
  ⟨hears (by decide), rfl, hears (by decide), hears (by decide), hears (by decide), hears (by decide), rfl,
    hears (by decide), by decide, hears (by decide)⟩

/-- A strap fault, a station still FALLING, one that may be cleared, and one that is not stopped. -/
theorem witness_Clear :
    (let s := heardBy (inState .faulted none .dark)
     let t := s.setSeq { s.seq with faultCause := .strap }
     t.hearing ∧ t.seq.state = .faulted ∧ t.seq.faultCause = .strap)
      ∧ (heardBy (inState .tripped none .falling)).hearing ∧ (inState .tripped none .falling).syn.out ≠ .dark
      ∧ (heardBy (inState .faulted none .dark)).hearing ∧ (inState .faulted none .dark).seq.faultCause ≠ .strap
      ∧ (heardBy (inState .idle none .live)).hearing
      ∧ ¬ ((inState .idle none .live).seq.state = .tripped ∨ (inState .idle none .live).seq.state = .faulted) :=
  ⟨⟨hears (by decide), rfl, rfl⟩, hears (by decide), by decide, hears (by decide), by decide, hears (by decide),
    by decide⟩

/-! ### Hypotheses are met: what every step keeps -/

/-- An ACTIVE station meets the conditions on levels, increments, protection and peers, and steps. -/
theorem witness_conditions :
    let s := inState .active (some { plainStep with duration := some 9 }) .live
    s.outputFits ∧ s.foldFits ∧ s.lockFits ∧ s.lnk.countersFit ∧ s.ownRecordStands ∧ s.strangersStand
      ∧ ∃ t, step s = .next t := by
  refine ⟨⟨⟨fun i => ?_, ?_, fun i => ?_, ?_⟩, ⟨?_, ?_, ?_⟩, ⟨?_, ?_, ?_, ?_⟩⟩, ⟨?_, ?_⟩, ⟨?_, ?_⟩, ⟨?_, ?_⟩, ⟨?_, ?_, ?_, ?_⟩, ?_,
    ⟨_, rfl⟩⟩
  · simp [Pls.slot, inState, State.reset, Pls.empty, StepRecord.fits, StepRecord.empty, State.setSeq, State.setSyn]
  · rintro r ⟨⟩
    exact ⟨by rintro l ⟨⟩, by rintro f ⟨⟩, by rintro j ⟨⟩, by rintro c ⟨⟩, by rintro e ⟨⟩, by decide⟩
  · simp [profileFits, Pls.profile, inState, State.reset, Pls.empty, State.setSeq, State.setSyn]
  · rintro i l ⟨⟩
  all_goals first | decide | (rintro r ⟨⟩) | exact ⟨by decide, by decide⟩ | (simp only [levelFits]; decide) | skip
  unfold State.strangersStand
  decide

/-- So it does for the relation of the states. -/
theorem witness_consistent :
    let s := inState .active (some { plainStep with duration := some 9 }) .live
    s.consistent ∧ ∃ t, step s = .next t := by
  refine ⟨⟨fun _ => ⟨fun _ => rfl, ?_⟩, fun _ => ⟨fun _ => rfl, fun _ _ => rfl, ?_⟩, fun _ => ?_, ?_⟩, ⟨_, rfl⟩⟩
  · rintro (h | h) <;> cases h
  · intro h
    cases h
  · exact ⟨fun h => absurd rfl h, fun h => by cases h⟩
  · intro h
    exact absurd rfl h

/-- A station in its start is quiet, and steps. -/
theorem witness_quiet :
    let s := (starting .asserted .resetPin).setLnk { State.reset.lnk with queue := [] }
    s.quietInReset ∧ s.running = false ∧ ∃ t, step s = .next t :=
  ⟨fun _ => ⟨rfl, rfl, rfl, rfl, rfl, rfl, rfl, rfl, rfl⟩, by decide, ⟨_, rfl⟩⟩

/-- Requests and frames whose payloads fit: the longest of the fixed ones is a STATUS of 30 bytes. -/
theorem witness_frames :
    (Instr.stepRead node9 255).wellFormed = true
      ∧ requestPayload (.stepRead node9 255) = some (node9, .stepRead, [255]) ∧ statusFrame.bytes.length = 30
      ∧ (Payload.stepCopy 0 { plainStep with overlays := List.replicate 4 { slot := 0, arm := none } }).bytes.length ≤ 64
      ∧ storeRecord 0 1 rawEmpty = some ({ plainStep with duration := some 0, await := some .none }, false) := by
  decide +kernel

end Sys2Proof.Tests
end

section
/-! PROOFS. The requests that only read: STEP_READ, QUERY and a request that cannot be read. Each ends its frame and
at most offers one frame, so LNK alone changes. -/

namespace Sys2Proof.Machine

/-! ### What changes LNK alone -/

/-- Putting another LNK in place changes LNK alone. -/
theorem State.onlyChanges_setLnk (s : State) (l : Lnk) : s.onlyChanges (s.setLnk l) [.lnk] := by
  refine ⟨fun b outside => ?_, rfl, rfl⟩
  cases b with
  | lnk => simp at outside
  | _ => rfl

/-! ### The answer to a request -/

/-- A reply to a request sent to ALL is not offered (R103). -/
theorem State.reply_of_toAll (s : State) {req : Requester} (h : req.toAll = true) (p : Payload) :
    s.reply req p = s := by
  simp [State.reply, h]

/-- A reply to a request sent to the station is offered to the requesting node (R103). -/
theorem State.reply_of_addressed (s : State) {req : Requester} (h : req.toAll = false) (p : Payload) :
    s.reply req p = s.setLnk (s.lnk.offer (.frame req.node p)) := by
  simp [State.reply, State.offer, h]

/-- An answer is at most one more frame offered to LNK, of the name that the statements give it. -/
theorem State.answer_eq_setLnk (s : State) (req : Requester) (kind : RequestKind) (first : Byte) (code : AnswerCode) :
    ∃ l, s.answer req kind first code = s.setLnk l ∧ s.lnk.offersNamed l (answerNames req kind first code) := by
  cases h : req.toAll with
  | true => exact ⟨s.lnk, s.reply_of_toAll h _, by simpa [answerNames, h] using s.lnk.offersNamed_nil⟩
  | false =>
    refine ⟨_, s.reply_of_addressed h _, ?_⟩
    simpa [answerNames, h, TxItem.name] using s.lnk.offersNamed_one (.frame req.node (.answer kind first code))

/-- A request whose only effect is its reply, sent to ALL: the frame ends, and nothing else happens (R103). -/
theorem State.requested_reply_of_toAll {s : State} (h : s.hearing) {req : Requester} (k : req.toAll = true)
    (p : State → Payload) : s.requested (fun t => t.reply req (p t)) = .next (s.setLnk s.lnk.frameEnded) := by
  rw [State.requested_of_hearing h, State.reply_of_toAll _ k, State.frameEnd_eq]

/-- A request whose only effect is its reply, sent to the station: the frame ends, and the reply is offered. -/
theorem State.requested_reply_of_addressed {s : State} (h : s.hearing) {req : Requester} (k : req.toAll = false)
    (p : State → Payload) :
    s.requested (fun t => t.reply req (p t))
      = .next (s.setLnk (s.lnk.frameEnded.offer (.frame req.node (p s.frameEnd)))) := by
  rw [State.requested_of_hearing h, State.reply_of_addressed _ k]
  rfl

/-! ### The state summary -/

/-- The overlay kinds of a summary are those of the slots (R113). -/
theorem State.summary_overlayKinds (s : State) (cause : StatusCause) (i : OverlayIndex) :
    (s.summary cause).overlayKinds[i.toNat]? = some (s.ovl.slot i).kind := by
  simp [State.summary, Ovl.slot, i.isLt]

/-- The peers of a summary are those of the records (R113). -/
theorem State.summary_peers (s : State) (cause : StatusCause) (n : Station) :
    (s.summary cause).peers[n.toNat]? = some ((s.ptb.peer n).state, (s.ptb.peer n).tripped) := by
  simp [State.summary, Ptb.peer, n.isLt]

/-- SEQ holds a slot in five of its states (R69). -/
theorem holdsSlot_iff (q : SeqState) :
    holdsSlot q = true ↔ q = .armed ∨ q = .gathering ∨ q = .active ∨ q = .frozen ∨ q = .held := by
  cases q <;> simp [holdsSlot]

/-- The summary as it stands reports the state field by field (R113). -/
theorem State.reports_summary (s : State) (cause : StatusCause) : s.reports cause (s.summary cause) :=
  ⟨rfl, holdsSlot_iff s.seq.state, Option.isSome_iff_ne_none, s.summary_overlayKinds cause, s.summary_peers cause⟩

/-- The end of the frame on the line touches nothing that a summary reports. -/
theorem State.summary_frameEnd (s : State) (cause : StatusCause) : s.frameEnd.summary cause = s.summary cause := rfl

/-! ### The three commands -/

theorem exec_stepRead (req : Requester) (slot : Slot) (s : State) :
    exec (.stepRead req slot) s = s.requested fun t => t.reply req (.stepCopy slot (t.pls.slot slot)) := rfl

theorem exec_query (req : Requester) (s : State) :
    exec (.query req) s = s.requested fun t => t.reply req (.status (t.summary .query)) := rfl

theorem exec_unreadableRequest (req : Requester) (kind : RequestKind) (first : Byte) (s : State) :
    exec (.unreadableRequest req kind first) s = s.requested fun t => t.answer req kind first .range := rfl

/-- A STEP_READ sent to the station offers the slot's record as stored (R66). -/
theorem exec_stepRead_of_addressed {s : State} (h : s.hearing) {req : Requester} (k : req.toAll = false)
    (slot : Slot) :
    exec (.stepRead req slot) s
      = .next (s.setLnk (s.lnk.frameEnded.offer (.frame req.node (.stepCopy slot (s.pls.slot slot))))) := by
  rw [exec_stepRead, State.requested_reply_of_addressed h k, State.frameEnd_eq, State.setLnk_pls]

/-- A QUERY sent to the station offers the state summary as it stands (R104). -/
theorem exec_query_of_addressed {s : State} (h : s.hearing) {req : Requester} (k : req.toAll = false) :
    exec (.query req) s
      = .next (s.setLnk (s.lnk.frameEnded.offer (.frame req.node (.status (s.summary .query))))) := by
  rw [exec_query, State.requested_reply_of_addressed h k, State.summary_frameEnd]

/-- A request that cannot be read changes LNK alone, and is answered RANGE unless it was sent to ALL (R103). -/
theorem exec_unreadableRequest_of_hearing {s : State} (h : s.hearing) (req : Requester) (kind : RequestKind)
    (first : Byte) :
    ∃ t, exec (.unreadableRequest req kind first) s = .next t ∧ s.onlyChanges t [.lnk]
      ∧ s.lnk.frameEnded.offersNamed t.lnk (answerNames req kind first .range) := by
  obtain ⟨l, answered, named⟩ := s.frameEnd.answer_eq_setLnk req kind first .range
  refine ⟨s.setLnk l, ?_, s.onlyChanges_setLnk l, named⟩
  rw [exec_unreadableRequest, State.requested_of_hearing h, answered]
  rfl

/-- Settles O48: a reply is an offer to LNK (`State.requested_reply_of_addressed`), and the summary it may carry is
the state's own (`State.reports_summary`). -/
theorem readsAndUnreadableRequestsChangeNothing : Obligations.ReadsAndUnreadableRequestsChangeNothing := by
  unfold Obligations.ReadsAndUnreadableRequestsChangeNothing
  refine ⟨fun s req slot h => ⟨fun addressed => ?_, fun toAll => ?_⟩,
    fun s req kind first h => exec_unreadableRequest_of_hearing h req kind first,
    fun s cause => ⟨s.summary cause, s.reports_summary cause, rfl⟩⟩
  · exact ⟨exec_stepRead_of_addressed h addressed slot,
      s.summary .query, s.reports_summary .query, exec_query_of_addressed h addressed⟩
  · rw [exec_stepRead, exec_query]
    exact ⟨State.requested_reply_of_toAll h toAll _, State.requested_reply_of_toAll h toAll _⟩

end Sys2Proof.Machine
end

section
/-! PROOFS. An offer to LNK's transmit queue (R106, R107). A queue in order ends with its newest entry of the
greatest class, so displacement takes the last entry. -/

namespace Sys2Proof.Machine

/-! ### The order of the queue -/

theorem TxEntry.before.cls_le {a b : TxEntry} (h : a.before b) : a.cls ≤ b.cls := by
  rcases h with lt | ⟨eq, -⟩ <;> omega

theorem TxEntry.before.order_lt_of_cls_eq {a b : TxEntry} (h : a.before b) (same : a.cls = b.cls) :
    a.order < b.order := by
  rcases h with lt | ⟨-, lt⟩ <;> omega

theorem TxEntry.not_before_self (a : TxEntry) : ¬ a.before a :=
  fun h => Nat.lt_irrefl _ (h.order_lt_of_cls_eq rfl)

/-- The entries of a queue in order stand in order of class. -/
theorem Lnk.ordered.pairwise_cls_le {l : Lnk} (h : l.ordered) : l.queue.Pairwise (·.cls ≤ ·.cls) := by
  obtain ⟨-, -, sorted, -⟩ := h
  exact sorted.imp TxEntry.before.cls_le

/-- A frame offered now is none of the queued ones, for their entry orders are below the next one. -/
theorem Lnk.ordered.ne_of_mem {l : Lnk} (h : l.ordered) (x : TxItem) {y : TxEntry} (queued : y ∈ l.queue) :
    y ≠ { order := l.nextOrder, item := x } := by
  obtain ⟨-, -, -, below, -⟩ := h
  rintro rfl
  exact Nat.lt_irrefl _ (below _ queued)

/-- The last entry of a queue in order comes after every other one. -/
theorem Lnk.ordered.before_last {l : Lnk} (h : l.ordered) {q : List TxEntry} {z : TxEntry}
    (split : l.queue = q ++ [z]) : ∀ y ∈ q, y.before z := by
  obtain ⟨-, -, sorted, -⟩ := h
  rw [split, List.pairwise_append] at sorted
  obtain ⟨-, -, ends⟩ := sorted
  exact fun y queued => ends y queued z (List.mem_singleton_self z)

/-! ### Insertion and the entry displaced -/

/-- Into entries in order of class, an entry goes behind those of its class and before those of a greater one. -/
theorem txInsert_eq_filter {q : List TxEntry} (sorted : q.Pairwise (·.cls ≤ ·.cls)) (e : TxEntry) :
    txInsert q e = q.filter (fun y => y.cls ≤ e.cls) ++ e :: q.filter (fun y => ¬ y.cls ≤ e.cls) := by
  induction q with
  | nil => rfl
  | cons x xs ih =>
    obtain ⟨first, rest⟩ := List.pairwise_cons.mp sorted
    by_cases h : x.cls ≤ e.cls
    · simp [txInsert, h, ih rest]
    · have greater : ∀ y ∈ xs, e.cls < y.cls := fun y queued => (not_le.mp h).trans_le (first y queued)
      have before : xs.filter (fun y => y.cls ≤ e.cls) = [] := by simpa using greater
      have behind : xs.filter (fun y => e.cls < y.cls) = xs := by simpa using greater
      simp [txInsert, h, not_le.mp h, before, behind]

theorem mem_txInsert {q : List TxEntry} {e y : TxEntry} : y ∈ txInsert q e ↔ y = e ∨ y ∈ q := by
  rw [(txInsert_perm q e).mem_iff, List.mem_cons]

theorem greatestClass_le {q : List TxEntry} {n : Nat} (h : ∀ y ∈ q, y.cls ≤ n) : greatestClass q ≤ n :=
  List.foldlRecOn q _ (motive := (· ≤ n)) (Nat.zero_le n) fun _ le y queued => Nat.max_le.mpr ⟨le, h y queued⟩

theorem greatestClass_concat {q : List TxEntry} {z : TxEntry} (h : ∀ y ∈ q, y.cls ≤ z.cls) :
    greatestClass (q ++ [z]) = z.cls := by
  have append : greatestClass (q ++ [z]) = max (greatestClass q) z.cls := List.foldl_concat ..
  rw [append, Nat.max_eq_right (greatestClass_le h)]

theorem dropNewest_concat (q : List TxEntry) (z : TxEntry) : dropNewest (q ++ [z]) z.cls = q := by
  simp [dropNewest]

/-! ### The cases of entering the queue -/

section
variable {l : Lnk} {place : List TxEntry → TxEntry → List TxEntry} {e : TxEntry}

theorem Lnk.enter_of_room (room : l.queue.length < 8) :
    l.enter place e = { l with queue := place l.queue e } := by
  simp [Lnk.enter, room]

/-- Into a full queue whose last entry is of its greatest class, a frame of a lesser class displaces that entry. -/
theorem Lnk.enter_of_displacing {q : List TxEntry} {z : TxEntry} (full : l.queue.length = 8)
    (split : l.queue = q ++ [z]) (greatest : ∀ y ∈ q, y.cls ≤ z.cls) (less : e.cls < z.cls) :
    l.enter place e = { l with queue := place q e, txDrop := true } := by
  have top : greatestClass l.queue = z.cls := by rw [split, greatestClass_concat greatest]
  have kept : dropNewest l.queue z.cls = q := by rw [split, dropNewest_concat]
  simp [Lnk.enter, full, top, kept, less]

theorem Lnk.enter_of_lost (full : l.queue.length = 8) (least : ∀ y ∈ l.queue, y.cls ≤ e.cls) :
    l.enter place e = { l with txDrop := true } := by
  simp [Lnk.enter, full, greatestClass_le least]

end

/-! ### The cases of an offer -/

section
variable {l : Lnk} {x : TxItem}
  (noSecond : ({ order := l.nextOrder, item := x } : TxEntry).isMark = true → ∀ y ∈ l.queue, y.isMark = false)
include noSecond

/-- A frame that is no second MARK enters with the next entry order (R106). -/
theorem Lnk.offer_of_noSecondMark :
    l.offer x = { l with nextOrder := l.nextOrder + 1 }.enter txInsert { order := l.nextOrder, item := x } := by
  refine if_neg fun second => ?_
  obtain ⟨mark, y, queued, other⟩ : _ ∧ ∃ y ∈ l.queue, y.isMark = true := by simpa using second
  exact absurd other (by simp [noSecond mark y queued])

theorem Lnk.offer_of_room (room : l.queue.length < 8) :
    l.offer x
      = { l with queue := txInsert l.queue { order := l.nextOrder, item := x }, nextOrder := l.nextOrder + 1 } :=
  (Lnk.offer_of_noSecondMark noSecond).trans (Lnk.enter_of_room room)

theorem Lnk.offer_of_displacing {q : List TxEntry} {z : TxEntry} (full : l.queue.length = 8)
    (split : l.queue = q ++ [z]) (greatest : ∀ y ∈ q, y.cls ≤ z.cls)
    (less : ({ order := l.nextOrder, item := x } : TxEntry).cls < z.cls) :
    l.offer x
      = { l with queue := txInsert q { order := l.nextOrder, item := x }
                 nextOrder := l.nextOrder + 1, txDrop := true } :=
  (Lnk.offer_of_noSecondMark noSecond).trans (Lnk.enter_of_displacing full split greatest less)

theorem Lnk.offer_of_lost (full : l.queue.length = 8)
    (least : ∀ y ∈ l.queue, y.cls ≤ ({ order := l.nextOrder, item := x } : TxEntry).cls) :
    l.offer x = { l with nextOrder := l.nextOrder + 1, txDrop := true } :=
  (Lnk.offer_of_noSecondMark noSecond).trans (Lnk.enter_of_lost full least)

end

@[simp] theorem TxEntry.isMark_mark (n : Nat) (i : Tick) :
    ({ order := n, item := .mark i } : TxEntry).isMark = true := rfl

/-- Putting an entry in the place of every MARK leaves entries alone that are no MARK. -/
theorem map_replaceMark_of_noMark {q : List TxEntry} (h : ∀ y ∈ q, y.isMark = false) (e : TxEntry) :
    q.map (fun y => if y.isMark then e else y) = q :=
  (List.map_congr_left fun y queued => by simp [h y queued]).trans (List.map_id q)

/-- A MARK offered while one is queued takes its place (R107). -/
theorem Lnk.offer_mark_of_queued {l : Lnk} {pre post : List TxEntry} {old : TxEntry}
    (split : l.queue = pre ++ old :: post) (mark : old.isMark = true) (single : ∀ y ∈ pre ++ post, y.isMark = false)
    (j : Tick) :
    l.offer (.mark j)
      = { l with queue := pre ++ { order := l.nextOrder, item := .mark j } :: post
                 nextOrder := l.nextOrder + 1, markReplaced := true } := by
  rw [List.forall_mem_append] at single
  obtain ⟨noneBefore, noneBehind⟩ := single
  simp [Lnk.offer, split, mark, map_replaceMark_of_noMark noneBefore, map_replaceMark_of_noMark noneBehind]

/-- Settles O43: a queue in order is a list of other entries and a last one, which is the newest entry of the greatest
class (`Lnk.ordered.before_last`); an insertion is two filters of it (`txInsert_eq_filter`). -/
theorem offeredFramesEnterTheQueue : Obligations.OfferedFramesEnterTheQueue := by
  unfold Obligations.OfferedFramesEnterTheQueue
  refine ⟨fun l x inOrder noSecond => ⟨fun room => ?room, fun full greater => ?displacing, fun full least => ?lost⟩,
    fun l pre post old i j split mark single => ?replaced⟩
  case room =>
    rw [Lnk.offer_of_room noSecond room]
    exact ⟨txInsert_eq_filter inOrder.pairwise_cls_le _, rfl, rfl⟩
  case displacing =>
    obtain ⟨w, queued, less⟩ := greater
    obtain empty | ⟨q, z, split⟩ := l.queue.eq_nil_or_concat'
    · simp [empty] at full
    have mem : ∀ {y}, y ∈ l.queue ↔ y ∈ q ∨ y = z := by simp [split]
    have last : ∀ y ∈ q, y.before z := inOrder.before_last split
    have greatest : ∀ y ∈ l.queue, y.cls ≤ z.cls := fun y hy =>
      (mem.mp hy).elim (fun kept => (last y kept).cls_le) fun same => same ▸ le_rfl
    rw [Lnk.offer_of_displacing noSecond full split (fun y kept => (last y kept).cls_le)
      (less.trans_le (greatest w queued))]
    refine ⟨mem_txInsert.mpr (.inl rfl), ?_, rfl, z, mem.mpr (.inr rfl), fun back => ?_, greatest,
      fun y hy same => ?_, fun y hy other => mem_txInsert.mpr (.inr ((mem.mp hy).resolve_right other))⟩
    · simpa [(txInsert_perm q _).length_eq, split] using full
    · obtain new | kept := mem_txInsert.mp back
      · exact inOrder.ne_of_mem x (mem.mpr (.inr rfl)) new
      · exact z.not_before_self (last z kept)
    · obtain kept | rfl := mem.mp hy
      · exact ((last y kept).order_lt_of_cls_eq same).le
      · exact le_rfl
  case lost =>
    rw [Lnk.offer_of_lost noSecond full least]
    exact ⟨rfl, rfl⟩
  case replaced =>
    rw [Lnk.offer_mark_of_queued split (by simp [TxEntry.isMark, mark]) single]
    exact ⟨rfl, rfl, rfl, rfl⟩

end Sys2Proof.Machine
end

section
/-! PROOFS. The level of a closed cycle (R141, R142). The search for the RMS code adds one bit at a time, from the top,
and keeps two facts: the code it holds fits, and every code that fits is below it plus the power of the bits to come. -/

namespace Sys2Proof.Machine

/-! ### The RMS code -/

/-- A code r that R141 admits as the RMS of a cycle: in 0..32,768, with r² × N ≤ ΣV². -/
def RmsFits (sumSquares samples r : Nat) : Prop := r ≤ 32768 ∧ r ^ 2 * samples ≤ sumSquares

section
variable {sumSquares samples : Nat}

theorem RmsFits.zero : RmsFits sumSquares samples 0 := by simp [RmsFits]

/-- With a code every lesser code fits. -/
theorem RmsFits.anti {q r : Nat} (fits : RmsFits sumSquares samples r) (le : q ≤ r) : RmsFits sumSquares samples q := by
  obtain ⟨bound, square⟩ := fits
  exact ⟨le.trans bound, (Nat.mul_le_mul_right samples (Nat.pow_le_pow_left le 2)).trans square⟩

/-- The test of `rmsSearch`. -/
theorem rmsTest_iff {r : Nat} :
    (decide (r ≤ 32768) && decide (r * r * samples ≤ sumSquares)) = true ↔ RmsFits sumSquares samples r := by
  simp [RmsFits, Nat.pow_two]

/-- A bit is kept when the code with it fits. -/
theorem rmsSearch_succ_of_fits {b r : Nat} (fits : RmsFits sumSquares samples (r + 2 ^ b)) :
    rmsSearch sumSquares samples (b + 1) r = rmsSearch sumSquares samples b (r + 2 ^ b) :=
  congrArg (rmsSearch sumSquares samples b) (if_pos (rmsTest_iff.mpr fits))

/-- A bit is left out when the code with it does not fit. -/
theorem rmsSearch_succ_of_not_fits {b r : Nat} (excess : ¬ RmsFits sumSquares samples (r + 2 ^ b)) :
    rmsSearch sumSquares samples (b + 1) r = rmsSearch sumSquares samples b r :=
  congrArg (rmsSearch sumSquares samples b) (if_neg (mt rmsTest_iff.mp excess))

theorem rmsSearch_isGreatest {bits r : Nat} (fits : RmsFits sumSquares samples r)
    (below : ∀ q, RmsFits sumSquares samples q → q < r + 2 ^ bits) :
    IsGreatest {q | RmsFits sumSquares samples q} (rmsSearch sumSquares samples bits r) := by
  induction bits generalizing r with
  | zero => exact ⟨fits, fun q other => Nat.le_of_lt_succ (below q other)⟩
  | succ b ih =>
    by_cases next : RmsFits sumSquares samples (r + 2 ^ b)
    · rw [rmsSearch_succ_of_fits next]
      exact ih next fun q other => by simpa [Nat.pow_succ, Nat.mul_two, Nat.add_assoc] using below q other
    · rw [rmsSearch_succ_of_not_fits next]
      exact ih fits fun q other => Nat.lt_of_not_le fun le => next (other.anti le)

/-- The RMS code is the greatest that fits: its 16 bits reach beyond 32,768. -/
theorem rms_isGreatest : IsGreatest {q | RmsFits sumSquares samples q} (rms sumSquares samples) :=
  rmsSearch_isGreatest .zero fun _ ⟨bound, _⟩ => by omega

end

/-! ### The measurement on a sample event -/

theorem State.closeCycle_fbm (s : State) :
    s.closeCycle.fbm
      = { sumSquares := 0, samples := 0, peakV := 0, peakI := 0
          lastLrms := s.fbm.closedLrms s.stc.setup.pNom } := rfl

@[simp] theorem State.ownWrap_fbm (s : State) (x : SampleInputs) : (s.ownWrap x).fbm = s.closeCycle.fbm := by
  simp [State.ownWrap]

@[simp] theorem State.feedback_fbm (s : State) (x : SampleInputs) :
    (s.feedback x).fbm = s.fbm.accumulate x.voltage.toInt x.current.toInt := by
  simp only [State.feedback]
  split <;> rfl

/-- FBM takes a sample's codes into the open cycle, or into a new one where an own wrap closes the open cycle
(R139, R140). -/
theorem State.sample_fbm (s : State) (x : SampleInputs) :
    (s.sample x).fbm
      = (if s.ctb.nextAdvance.ownWrap then s.closeCycle.fbm else s.fbm).accumulate
          x.voltage.toInt x.current.toInt := by
  simp only [State.sample]
  split <;> split <;> simp [State.closeCycle_fbm]

/-- A sample's codes leave the last-cycle level alone. -/
@[simp] theorem Fbm.accumulate_lastLrms (m : Fbm) (v i : Int) : (m.accumulate v i).lastLrms = m.lastLrms := rfl

theorem State.sample_lastLrms_of_ownWrap {s : State} (wrap : s.ctb.nextAdvance.ownWrap = true) (x : SampleInputs) :
    (s.sample x).fbm.lastLrms = s.fbm.closedLrms s.stc.setup.pNom := by
  simp [State.sample_fbm, wrap, State.closeCycle_fbm]

theorem exec_sampleEvent_of_ready {s : State} (h : s.ready) (x : SampleInputs) :
    exec (.sampleEvent x) s = .next (s.sample x) :=
  State.taking_of_ready h (·.sample x)

/-- Settles O25: the search ends at the greatest code that fits (`rms_isGreatest`), and the sample's work after the own
wrap leaves the level it set alone (`State.sample_lastLrms_of_ownWrap`). -/
theorem cycleLevelIsTheExactRms : Obligations.CycleLevelIsTheExactRms := by
  unfold Obligations.CycleLevelIsTheExactRms
  refine ⟨fun m pNom _ _ => ?_, fun s x ready wrap _ =>
    ⟨s.sample x, exec_sampleEvent_of_ready ready x, State.sample_lastLrms_of_ownWrap wrap x⟩⟩
  obtain ⟨⟨bound, square⟩, greatest⟩ := rms_isGreatest (sumSquares := m.sumSquares) (samples := m.samples)
  exact ⟨bound, square, fun r le fits => greatest ⟨le, fits⟩, by simp [Fbm.closedLrms]⟩

end Sys2Proof.Machine
end

section
/-! PROOFS. The request SETUP (R161, R162): its ranges and its policy code, the state after an accepted one, and the
three ways it is decided. -/

namespace Sys2Proof.Machine

/-! ### The ranges and the policy code -/

/-- A value is stored as received when it lies within its range, and only then. -/
theorem clampRange_eq_self_iff {lo hi x : Nat} (le : lo ≤ hi) : clampRange lo hi x = x ↔ lo ≤ x ∧ x ≤ hi := by
  simp only [clampRange]
  omega

/-- No value is clamped when each of the six lies within its range, and only then (R162). -/
theorem setupClamped_eq_false_iff (v : RawSetup) :
    setupClamped v = false ↔
      1 ≤ v.pNom.toNat ∧ v.pNom.toNat ≤ 32767 ∧ 1 ≤ v.clip.toNat ∧ v.clip.toNat ≤ 32767
        ∧ 1 ≤ v.limit.toNat ∧ v.limit.toNat ≤ 32767 ∧ 64 ≤ v.dSafe.toNat ∧ v.dSafe.toNat ≤ 4096
        ∧ 1 ≤ v.foldStep.toNat ∧ v.foldStep.toNat ≤ 64 ∧ 4000 ≤ v.frequency.toNat
        ∧ v.frequency.toNat ≤ 7000 := by
  simp [setupClamped, storedSetup, clampRange_eq_self_iff, and_assoc]

/-- The reader of a policy code agrees with the code table (R116). -/
theorem policyOf_eq_nameOf (c : Byte) : policyOf c = nameOf tripPolicies c := by
  simp only [policyOf, nameOf]
  generalize c.toNat = n
  match n with
  | 0 | 1 | 2 | _ + 3 => rfl

/-- A code above the last of the table names no policy. -/
theorem policyOf_eq_none {c : Byte} (h : 2 < c.toNat) : policyOf c = none := by
  rw [policyOf_eq_nameOf]
  exact List.getElem?_eq_none h

/-! ### What follows the request -/

/-- The end of the frame and the answer to the request change LNK alone, which offers at most that answer. -/
theorem State.answer_frameEnd (s : State) (req : Requester) (kind : RequestKind) (first : Byte) (code : AnswerCode) :
    s.onlyChanges (s.frameEnd.answer req kind first code) [.lnk]
      ∧ s.lnk.frameEnded.offersNamed (s.frameEnd.answer req kind first code).lnk (answerNames req kind first code) := by
  obtain ⟨l, answered, named⟩ := s.frameEnd.answer_eq_setLnk req kind first code
  rw [answered]
  exact ⟨s.onlyChanges_setLnk l, named⟩

/-- The setup handed to its users changes STC, CTB and FTU; a new LNK goes with it. -/
theorem State.onlyChanges_applySetup (s : State) (l : Lnk) (v : Setup) :
    s.onlyChanges ((s.setLnk l).applySetup v) [.stc, .ctb, .ftu, .lnk] := by
  refine ⟨fun b outside => ?_, rfl, rfl⟩
  cases b with
  | stc | ctb | ftu | lnk => simp at outside
  | _ => rfl

/-! ### The three ways a SETUP is decided -/

section
variable {s : State} {req : Requester} {v : RawSetup}

theorem exec_setup : exec (.setup req v) s = execSetup req v s := rfl

theorem State.setupAllowed_iff :
    s.setupAllowed = true ↔ s.seq.state = .idle ∧ s.syn.out = .dark ∧ s.stc.energized = false := by
  simp [State.setupAllowed, and_assoc]

/-- The end of a frame touches nothing that decides whether a SETUP may be taken. -/
theorem State.setupAllowed_frameEnd : s.frameEnd.setupAllowed = s.setupAllowed := rfl

theorem exec_setup_of_not_allowed (h : s.hearing) (forbidden : ¬ s.setupAllowed = true) :
    exec (.setup req v) s = .next (s.frameEnd.answer req .setup (highByte v.pNom) .refused) := by
  simp [exec_setup, execSetup, State.requested_of_hearing h, State.setupAllowed_frameEnd, forbidden]

theorem exec_setup_of_no_policy (h : s.hearing) (allowed : s.setupAllowed = true) (unnamed : policyOf v.policy = none) :
    exec (.setup req v) s = .next (s.frameEnd.answer req .setup (highByte v.pNom) .range) := by
  simp [exec_setup, execSetup, State.requested_of_hearing h, State.setupAllowed_frameEnd, allowed, unnamed]

theorem exec_setup_of_policy (h : s.hearing) (allowed : s.setupAllowed = true) {policy : TripPolicy}
    (named : policyOf v.policy = some policy) :
    exec (.setup req v) s
      = .next ((s.frameEnd.answer req .setup (highByte v.pNom) (if setupClamped v then .clamped else .ok)).applySetup
          (storedSetup v policy)) := by
  simp [exec_setup, execSetup, State.requested_of_hearing h, State.setupAllowed_frameEnd, allowed, named]

end

/-- Settles O45: the three ways of R161, by whether a SETUP may be taken (`State.setupAllowed_iff`) and then whether
its policy code names one. The two refusals are an answer alone (`State.answer_frameEnd`); the values stored are clamped
as R162 states, and the answer says whether one was (`setupClamped_eq_false_iff`). -/
theorem setupIsDecidedAndStored : Obligations.SetupIsDecidedAndStored := by
  unfold Obligations.SetupIsDecidedAndStored
  refine ⟨fun s req v policy h idle dark quiet named => ?_,
    fun s req v h => ⟨fun busy => ?_, fun idle dark quiet beyond => ?_⟩⟩
  · have taken := exec_setup_of_policy (req := req) h (State.setupAllowed_iff.mpr ⟨idle, dark, quiet⟩)
      ((policyOf_eq_nameOf v.policy).trans named)
    obtain ⟨l, answered, offered⟩ := s.frameEnd.answer_eq_setLnk req .setup (highByte v.pNom)
      (if setupClamped v then .clamped else .ok)
    rw [answered] at taken
    refine ⟨_, _, _, taken, rfl, rfl, rfl, rfl, offered, ?_, s.onlyChanges_applySetup l _⟩
    simp only [← setupClamped_eq_false_iff]
    cases setupClamped v <;> simp
  · refine ⟨_, exec_setup_of_not_allowed h fun allowed => ?_, s.answer_frameEnd req .setup _ .refused⟩
    obtain ⟨idle, dark, quiet⟩ := State.setupAllowed_iff.mp allowed
    simp [idle, dark, quiet] at busy
  · exact ⟨_, exec_setup_of_no_policy h (State.setupAllowed_iff.mpr ⟨idle, dark, quiet⟩) (policyOf_eq_none beyond),
      s.answer_frameEnd req .setup _ .range⟩

end Sys2Proof.Machine
end

section
/-! PROOFS. What each command is: the operation that a running station takes, once what is due has been carried out. -/

namespace Sys2Proof.Machine

section
variable (s : State)

theorem exec_powerOn : exec .powerOn s = .next (s.resetBy .powerOn) := rfl
theorem exec_supplyLow : exec .supplyLow s = .next (s.resetBy .supplyLow) := rfl
theorem exec_resetPin : exec .resetPin s = .next (s.resetBy .resetPin) := rfl
theorem exec_resetReleased : exec .resetReleased s =
    .next (if s.stc.phase = .asserted then s.setStc { s.stc with phase := .powerUpDelay } else s) := rfl
theorem exec_powerUpDelayEnd : exec .powerUpDelayEnd s =
    .next (if s.stc.phase = .powerUpDelay then s.setStc { s.stc with phase := .oscillatorCount } else s) := rfl
theorem exec_oscillatorCountEnd (straps : Straps) : exec (.oscillatorCountEnd straps) s =
    .next (if s.stc.phase = .oscillatorCount then s.startUp straps else s) := rfl
theorem exec_sampleEvent (x : SampleInputs) : exec (.sampleEvent x) s = s.taking (·.sample x) := rfl
theorem exec_levelRampEnd : exec .levelRampEnd s = s.carrying State.carryLevelRampEnd := rfl
theorem exec_frequencyRampEnd : exec .frequencyRampEnd s = s.carrying State.carryFrequencyRampEnd := rfl
theorem exec_safeRampDownEnd : exec .safeRampDownEnd s = s.carrying State.carrySafeEnd := rfl
theorem exec_stepDurationEnd : exec .stepDurationEnd s = s.carrying State.carryStepEnd := rfl
theorem exec_markerLimit : exec .markerLimit s = s.carrying State.carryMarkerLimit := rfl
theorem exec_ownTrip : exec .ownTrip s = s.carrying State.carryOwnTrip := rfl
theorem exec_peerLost (n : Station) : exec (.peerLost n) s = s.carrying fun t =>
    if t.lossDue n then (t.carryStepEnd.carryMarkerLimit.carryLoss n).carryEvaluation else t := rfl
theorem exec_gatherTimeout : exec .gatherTimeout s = s.carrying State.carryTimeout := rfl
theorem exec_lineIdle : exec .lineIdle s = s.taking State.lineIdle := rfl
theorem exec_transmitStart (elapsed : Nat) :
    exec (.transmitStart elapsed) s = s.taking fun t => (t.passTicks elapsed).transmitStart := rfl
theorem exec_arbitrationLoss : exec .arbitrationLoss s = s.taking fun t => t.setLnk t.lnk.giveBack := rfl
theorem exec_collision : exec .collision s = s.taking State.collide := rfl
theorem exec_badFrame : exec .badFrame s = s.taking State.badFrame := rfl
theorem exec_markReceived (n : Station) (m : MarkFields) : exec (.markReceived n m) s =
    s.taking fun t => t.received (nodeOf n) (fun p => p = .mark m) fun u => u.updatePeer n (u.markRecord n m) := rfl
theorem exec_tripReceived (n : Station) (cause : TripCause) (slot : Slot) : exec (.tripReceived n cause slot) s =
    s.taking fun t => t.received (nodeOf n) (fun p => p = .trip cause slot) fun u =>
      u.updatePeer n { u.ptb.peer n with tripped := true } := rfl
theorem exec_joinReceived (n : Station) (tag : Tag) (mask : Mask) : exec (.joinReceived n tag mask) s =
    s.taking fun t => t.received (nodeOf n) (fun p => p = .join tag mask) fun u =>
      (u.updatePeer n { u.ptb.peer n with joinTag := some tag }).testBarrier n tag := rfl
theorem exec_withdrawReceived (n : Station) (tag : Tag) (reason : WithdrawReason) :
    exec (.withdrawReceived n tag reason) s =
    s.taking fun t => t.received (nodeOf n) (fun p => p = .withdraw tag reason) fun u =>
      (u.updatePeer n { u.ptb.peer n with joinTag := none }).heardWithdraw tag := rfl
theorem exec_statusReceived (n : Station) (cause : StatusCause) (q : SeqState) :
    exec (.statusReceived n cause q) s =
    s.taking fun t => t.received (nodeOf n) (Payload.isStatus cause q) fun u =>
      u.updatePeer n ((u.ptb.peer n).afterStatus cause q) := rfl
theorem exec_replyFrameReceived (n : Station) (kind : ReplyKind) : exec (.replyFrameReceived n kind) s =
    s.taking fun t => t.received (nodeOf n) (Payload.isReply kind) id := rfl
theorem exec_ignoredFrameReceived (n : NodeNumber) : exec (.ignoredFrameReceived n) s =
    s.taking fun t => t.received n (fun _ => false) id := rfl
theorem exec_startBitSeen (elapsed : Nat) :
    exec (.startBitSeen elapsed) s = s.taking fun t => (t.passTicks elapsed).otherStartBit := rfl
theorem exec_dominantBitNotIdle : exec .dominantBitNotIdle s = s.taking State.dominantNotIdle := rfl
theorem exec_ownAbortedFrameDiscarded : exec .ownAbortedFrameDiscarded s =
    s.taking fun t => if t.lnk.ownAborted then t.heard id else t := rfl

variable (req : Requester)

theorem exec_stepWrite (slot : Slot) (raw : RawRecord) : exec (.stepWrite req slot raw) s =
    s.requested fun t =>
      if t.isCurrentSlot slot then t.answer req .stepWrite slot .busy
      else
        match storeRecord t.own t.count raw with
        | none => t.answer req .stepWrite slot .range
        | some (r, clamped) =>
          let u := t.answer req .stepWrite slot (if clamped then .clamped else .ok)
          u.setPls (u.pls.setSlot slot r) := rfl
theorem exec_profileWrite (index count : Byte) (entries : List ProfileEntry) :
    exec (.profileWrite req index count entries) s = s.requested fun t =>
      if index.toNat > 7 || count.toNat > 12 || entries.length > 12 then t.answer req .profileWrite index .range
      else
        (t.answer req .profileWrite index
            (if entries.map ProfileEntry.clamped ≠ entries then .clamped else .ok)).placeProfile
          (index.extractLsb' 0 3) (entries.map ProfileEntry.clamped) := rfl
theorem exec_run (start : Option Slot) : exec (.run req start) s = s.requested fun t =>
    if t.runAnswer = .ok then (t.answer req .run (runFirst start) t.runAnswer).startRun start
    else t.answer req .run (runFirst start) t.runAnswer := rfl
theorem exec_suspend : exec (.suspend req) s =
    s.requested fun t => (t.answer req .suspend 0 (suspendAnswer t.seq.state)).suspend := rfl
theorem exec_release : exec (.release req) s =
    s.requested fun t => (t.answer req .release 0 (if t.seq.state = .held then .ok else .notHeld)).release := rfl
theorem exec_abort : exec (.abort req) s =
    s.requested fun t => (t.answer req .abort 0 (abortAnswer t.seq.state)).abort := rfl
theorem exec_clear : exec (.clear req) s = s.requested fun t =>
    if t.clearRefused then t.answer req .clear 0 .refused
    else if t.stopped then (t.answer req .clear 0 .ok).clearStop else (t.answer req .clear 0 .ok).clearSticky := rfl

end

end Sys2Proof.Machine
end

section
/-! PROOFS. What a step can do to a station, said once: every command comes to a run of elementary changes, each of one
block (`State.leads_step`). A condition that every elementary change keeps is kept by every step. -/

namespace Sys2Proof.Machine

/-! ### The elementary changes -/

/-- One elementary change of a station. Each constructor names what it writes and, where a condition that every step
keeps turns on it, what the written value may be. -/
inductive State.Change (s : State) : State → Prop
  /-- A frame is offered: a MARK by its instant alone (R110). -/
  | offer {x : TxItem} (proper : ∀ a m, x ≠ .frame a (.mark m)) : Change s (s.offer x)
  | remove (p : Payload → Bool) : Change s (s.setLnk (s.lnk.remove p))
  | giveBack : Change s (s.setLnk s.lnk.giveBack)
  /-- Stale MARKs leave the head of the queue. -/
  | discard {q : List TxEntry} (suffix : q <:+ s.lnk.queue) : Change s (s.setLnk { s.lnk with queue := q })
  /-- The first entry goes into the empty shifter. -/
  | send {e : TxEntry} {rest : List TxEntry} (p : Payload) (first : s.lnk.queue = e :: rest)
      (empty : s.lnk.shifter = none) :
      Change s (s.setLnk { s.lnk with queue := rest, shifter := some { entry := e, payload := p, discard := false } })
  /-- A change of LNK beside the queue and the counters. -/
  | line {l : Lnk} (queue : l.queue = s.lnk.queue) (nextOrder : l.nextOrder = s.lnk.nextOrder)
      (shifter : l.shifter = s.lnk.shifter ∨ l.shifter = none)
      (checkErrors : l.checkErrors = s.lnk.checkErrors) (collisions : l.collisions = s.lnk.collisions) :
      Change s (s.setLnk l)
  | countError (drop : Bool) : Change s (s.setLnk { s.lnk with
      rxCheck := drop, checkErrors := satAdd 255 s.lnk.checkErrors 1 })
  | countCollision : Change s (s.setLnk { s.lnk with collisions := satAdd 255 s.lnk.collisions 1 })
  | seq {q : Seq} (image : q.image = none ∨ q.image = s.seq.image ∨ ∃ i, q.image = some (s.pls.slot i)) :
      Change s (s.setSeq q)
  | jnt (j : Jnt) : Change s (s.setJnt j)
  | ovl (o : Ovl) : Change s (s.setOvl o)
  | fbm (m : Fbm) : Change s (s.setFbm m)
  | freeCount (n : Nat) : Change s (s.setFreeCount n)
  | written (i : Slot) (live : Bool) (reason : EndReason) (p : Pass) :
      Change s (s.setPls (s.pls.setSlot i ((s.pls.slot i).written live reason p)))
  | stored (i : Slot) {r : StepRecord} (fits : r.fits) : Change s (s.setPls (s.pls.setSlot i r))
  | profile {i : ProfileIndex} {l : List ProfileEntry}
      (fits : profileFits l ∨ s.syn.pendingCopy = some (i, l)) : Change s (s.setPls (s.pls.setProfile i l))
  /-- A change of SYN that takes no level but the present one and 0. -/
  | syn {y : Syn} (level : y.level = s.syn.level ∨ y.level = 0) (ramp : y.ramp = s.syn.ramp ∨ y.ramp = none)
      (safe : y.safe = s.syn.safe ∨ y.safe = none ∨ ∃ g, y.safe = some g ∧ g.start = s.syn.level)
      (pendingCopy : y.pendingCopy = s.syn.pendingCopy ∨ y.pendingCopy = none
        ∨ ∃ i l, y.pendingCopy = some (i, l) ∧ profileFits l) : Change s (s.setSyn y)
  | levelStep (frozen : Bool) : Change s (s.setSyn (s.syn.levelStep frozen))
  | startLevel {r : StepRecord} (held : s.seq.image = some r) : Change s (s.setSyn (s.syn.startWith r))
  /-- A change of CTB beside the base increment. -/
  | ctb {c : Ctb} (f : c.f = s.ctb.f) (ramp : c.ramp = s.ctb.ramp ∨ c.ramp = none)
      (correction : c.c = s.ctb.c ∨ c.c.natAbs ≤ c.f >>> 10) : Change s (s.setCtb c)
  | rampStep (frozen : Bool) : Change s (s.setCtb (s.ctb.rampStep frozen))
  | startFrequency {r : StepRecord} (held : s.seq.image = some r) :
      Change s (s.setCtb (s.ctb.startWith r s.ctb.f))
  | energized : Change s (s.setStc { s.stc with energized := true })
  | startPhase (p : StartPhase) : Change s (s.setStc { s.stc with phase := p })
  | setup {v : Setup} (fits : frequencyFits v.frequency) : Change s (s.applySetup v)
  | ftu {u : Ftu} (phi : 64 ≤ s.ftu.phi ∧ s.ftu.phi ≤ 1024 → 64 ≤ u.phi ∧ u.phi ≤ 1024) : Change s (s.setFtu u)
  | lck {k : Lck} (streak : k.streak = s.lck.streak ∧ k.state = s.lck.state
      ∨ k.streak ≤ 4 ∧ (k.state = .alone → k.streak = 0)) : Change s (s.setLck k)
  | ptb {p : Ptb}
      (own : (p.peer s.own).state = (s.ptb.peer s.own).state ∧ (p.peer s.own).error = (s.ptb.peer s.own).error
        ∧ (p.peer s.own).fresh = (s.ptb.peer s.own).fresh ∧ (p.peer s.own).age = (s.ptb.peer s.own).age)
      (strangers : ∀ n : Station, ¬ n.toNat < s.count →
        ((p.peer n).state = .lost → (s.ptb.peer n).state = .lost)
          ∧ ((p.peer n).fresh = true → (s.ptb.peer n).fresh = true)) : Change s (s.setPtb p)
  | pending (l : List Instr) : Change s (s.setPending l)
  | assertReset (kind : StartCause) : Change s (s.assertReset kind)
  | startUp (straps : Straps) : Change s (s.startUp straps)

/-- A run of elementary changes. -/
def State.Leads (s t : State) : Prop := Relation.ReflTransGen State.Change s t

/-- A condition that every elementary change keeps is kept by a run of them. -/
theorem State.Leads.keeps {p : State → Prop} {s t : State} (run : s.Leads t) (start : p s)
    (change : ∀ u v, p u → u.Change v → p v) : p t := by
  induction run with
  | refl => exact start
  | tail _ last ih => exact change _ _ ih last

/-- A walk that ends at a step has found it in the plan. -/
theorem walk_found_step {p : Pls} {ring : Slot} {fuel : Nat} {pointer : Slot}
    {loop : Option OpenLoop} {r : StepRecord} (h : (walk p ring fuel pointer loop).found = .step r) :
    ∃ i, r = p.slot i := by
  induction fuel generalizing pointer loop with
  | zero => simp [walk] at h
  | succ fuel ih =>
    simp only [walk] at h
    split at h
    · split at h
      · exact ⟨pointer, (WalkFound.step.inj h).symm⟩
      · exact ih h
      · cases h
      · exact ih h
      · split at h
        · exact ih h
        · exact ih h
    · cases h

/-- What may be written into the record of a station: the station's own keeps presence, error, freshness and age,
and that of a number at or above the count does not become LOST or fresh. -/
def State.admits (s : State) (n : Station) (r : PeerRecord) : Prop :=
  (n = s.own → r.state = (s.ptb.peer n).state ∧ r.error = (s.ptb.peer n).error ∧ r.fresh = (s.ptb.peer n).fresh
      ∧ r.age = (s.ptb.peer n).age)
    ∧ (¬ n.toNat < s.count → (r.state = .lost → (s.ptb.peer n).state = .lost)
        ∧ (r.fresh = true → (s.ptb.peer n).fresh = true))

namespace State.Leads

variable {s t : State}

theorem refl (s : State) : s.Leads s := Relation.ReflTransGen.refl

theorem trans {u : State} (h : s.Leads t) (k : t.Leads u) : s.Leads u := Relation.ReflTransGen.trans h k

theorem change {u : State} (h : s.Leads t) (k : t.Change u) : s.Leads u := Relation.ReflTransGen.tail h k

theorem ite {c : Prop} [Decidable c] {u : State} (h : s.Leads t) (k : s.Leads u) : s.Leads (if c then t else u) := by
  split
  · exact h
  · exact k

/-! ### The queue and the joint gate -/

theorem offer (h : s.Leads t) (x : TxItem) (proper : ∀ a m, x ≠ .frame a (.mark m) := by nofun) :
    s.Leads (t.offer x) := h.change (.offer proper)

theorem offerAll (h : s.Leads t) (p : Payload) (proper : ∀ m, p ≠ .mark m := by nofun) : s.Leads (t.offerAll p) :=
  h.offer _ fun _ m same => proper m (TxItem.frame.inj same).2

theorem offerStatus (h : s.Leads t) (c : StatusCause) : s.Leads (t.offerStatus c) := h.offerAll _

theorem setJnt (h : s.Leads t) (j : Jnt) : s.Leads (t.setJnt j) := h.change (.jnt j)

/-- A change of SEQ that keeps the image it holds. -/
theorem setSeq (h : s.Leads t) {q : Seq} (image : q.image = t.seq.image := by rfl) : s.Leads (t.setSeq q) :=
  h.change (.seq (.inr (.inl image)))

/-- A change of SEQ that lets go of its image. -/
theorem dropImage (h : s.Leads t) {q : Seq} (image : q.image = none := by rfl) : s.Leads (t.setSeq q) :=
  h.change (.seq (.inl image))

/-- A change of FTU beside Φ. -/
theorem setFtu (h : s.Leads t) {u : Ftu} (phi : u.phi = t.ftu.phi := by rfl) : s.Leads (t.setFtu u) :=
  h.change (.ftu (by simp [phi]))

/-- A change of SYN beside the levels and the pending copy. -/
theorem setSyn (h : s.Leads t) {y : Syn} (level : y.level = t.syn.level := by rfl)
    (ramp : y.ramp = t.syn.ramp := by rfl) (safe : y.safe = t.syn.safe := by rfl)
    (pendingCopy : y.pendingCopy = t.syn.pendingCopy := by rfl) : s.Leads (t.setSyn y) :=
  h.change (.syn (.inl level) (.inl ramp) (.inl safe) (.inl pendingCopy))

theorem remove (h : s.Leads t) (p : Payload → Bool) : s.Leads (t.setLnk (t.lnk.remove p)) := h.change (.remove p)

theorem countOrder (h : s.Leads t) : s.Leads t.countOrder := h.change (.freeCount _)

theorem eitherOrder (h : s.Leads t) {f g : State → State} (hf : ∀ u, s.Leads u → s.Leads (f u))
    (hg : ∀ u, s.Leads u → s.Leads (g u)) : s.Leads (t.eitherOrder f g) := by
  unfold State.eitherOrder
  exact .ite (hg _ (hf _ h.countOrder)) (hf _ (hg _ h.countOrder))

theorem pointToNext (h : s.Leads t) (r : StepRecord) : s.Leads (t.pointToNext r) := h.setSeq

theorem writeBack (h : s.Leads t) (r : StepRecord) (e : EndReason) (live : Bool) (p : Pass) :
    s.Leads (t.writeBack r e live p) := by
  have stored := h.change (.written t.seq.pointer live e p)
  simp only [State.writeBack]
  exact .ite (stored.offerAll _) stored

theorem offerWithdraw (h : s.Leads t) (r : WithdrawReason) : s.Leads (t.offerWithdraw r) := h.offerAll _

theorem removeJoin (h : s.Leads t) : s.Leads t.removeJoin := h.remove _

theorem withdraw (h : s.Leads t) (r : WithdrawReason) : s.Leads (t.withdraw r) :=
  (h.removeJoin.offerWithdraw r).setJnt _

theorem leaveGathering (h : s.Leads t) (r : WithdrawReason) : s.Leads (t.leaveGathering r) :=
  .ite h ((h.removeJoin.offerWithdraw r).setJnt _)

theorem openGate (h : s.Leads t) (j : JointPart) : s.Leads (t.openGate j) := by
  have opened := h.setJnt { gate := .opened, tag := j.tag, mask := j.mask, timeout := j.timeout.toNat
                            entry := t.ctb.commonCycles, ownJoin := false, withdrawRef := none, angleTest := false }
  exact .ite ((opened.offerWithdraw _).setJnt _) (.ite ((opened.offerWithdraw _).setJnt _) (opened.offerAll _))

theorem enterGathering (h : s.Leads t) (j : JointPart) : s.Leads (t.enterGathering j) :=
  ((h.setSeq).offerStatus _).openGate j

/-! ### Leaving a step -/

theorem enterFalling (h : s.Leads t) : s.Leads t.enterFalling := by
  refine .ite ?_ h
  have fallen := h.change (.syn (y := t.syn.fall t.stc.setup.dSafe) (.inl rfl) (.inr rfl) (.inr (.inr ⟨_, rfl, rfl⟩))
    (.inl rfl))
  exact (fallen.change (.ovl _)).change (.ctb rfl (.inr rfl) (.inl rfl))

theorem dropStep (h : s.Leads t) (e : EndReason) (w : WithdrawReason) : s.Leads (t.dropStep e w) := by
  unfold State.dropStep
  split
  · exact (h.writeBack _ _ _ _).pointToNext _
  · exact (h.writeBack _ _ _ _).pointToNext _
  · exact h.pointToNext _
  · exact h.leaveGathering _
  · exact h

theorem rest (h : s.Leads t) (q : SeqState) : s.Leads (t.rest q) := h.dropImage

theorem fault (h : s.Leads t) (c : FaultCause) : s.Leads (t.fault c) :=
  .ite h ((((h.dropStep .aborted .aborted).rest .faulted).enterFalling.setSeq).offerStatus .fault)

theorem trip (h : s.Leads t) (c : TripCause) : s.Leads (t.trip c) :=
  .ite h (((((h.setFtu.offerAll (.trip c t.seq.pointer)).enterFalling.dropStep .tripped .ownTrip).rest .tripped).offerStatus
    .trip))

theorem abandon (h : s.Leads t) : s.Leads t.abandon := by
  have removed := (h.remove (Payload.isJoinFor t.jnt.tag)).remove (Payload.isWithdrawFor t.jnt.tag)
  simp only [State.abandon]
  split
  · exact ((((removed.writeBack _ _ _ _).pointToNext _).dropImage).offerStatus _).setJnt _
  · exact ((removed.dropImage).offerStatus _).setJnt _

/-! ### Taking a step -/

theorem arm (h : s.Leads t) {r : StepRecord} (stored : ∃ i, r = t.pls.slot i) : s.Leads (t.arm r) := by
  obtain ⟨i, stored⟩ := stored
  have held := h.change (.seq (q := { t.seq with state := .armed, image := some r
                                                 awaitOpen := r.awaited = .none })
    (.inr (.inr ⟨i, congrArg some stored⟩)))
  simp only [State.arm]
  split
  · exact .ite (held.enterGathering _) (held.offerStatus _)
  · exact held.offerStatus _

theorem takeStep (h : s.Leads t) : s.Leads t.takeStep := by
  have walked := h.dropImage (q := { t.seq with
    pointer := (walk t.pls t.seq.ringStart 1024 t.seq.pointer t.seq.loop).pointer
    loop := (walk t.pls t.seq.ringStart 1024 t.seq.pointer t.seq.loop).loop
    image := none, awaitOpen := false, retest := false })
  simp only [State.takeStep]
  split
  next => exact (walked.setSeq).offerStatus _
  next r found => exact walked.arm (walk_found_step found)
  next => exact walked.fault _
  next => exact walked.setSeq

theorem moveOn (h : s.Leads t) (r : StepRecord) : s.Leads (t.moveOn r) :=
  .ite (((h.pointToNext r).dropImage).offerStatus _) (h.pointToNext r).takeStep

/-! ### Peers -/

theorem freeze (h : s.Leads t) : s.Leads t.freeze := .ite ((h.setSeq).offerStatus _) h

theorem thaw (h : s.Leads t) : s.Leads t.thaw := .ite ((h.setSeq).offerStatus _) h

theorem applyPolicy (h : s.Leads t) (c : TripCause) : s.Leads (t.applyPolicy c) := by
  refine .ite h ?_
  split
  · exact h.trip c
  · exact h.freeze
  · exact h

theorem maskedTrouble (h : s.Leads t) (n : Station) (r : WithdrawReason) : s.Leads (t.maskedTrouble n r) :=
  .ite (h.withdraw r) h

theorem peerTrouble (h : s.Leads t) (n : Station) (c : TripCause) (r : WithdrawReason) :
    s.Leads (t.peerTrouble n c r) :=
  .ite (h.eitherOrder (fun _ k => k.maskedTrouble n r) fun _ k => k.applyPolicy c)
    ((h.maskedTrouble n r).applyPolicy c)

theorem setPeer (h : s.Leads t) {n : Station} {r : PeerRecord} (admitted : t.admits n r) :
    s.Leads (t.setPtb (t.ptb.setPeer n r)) := by
  obtain ⟨own, stranger⟩ := admitted
  refine h.change (.ptb ?_ fun m outside => ?_)
  · by_cases same : t.own = n
    · simpa [same] using own same.symm
    · simp [Ptb.peer_setPeer_ne _ _ same]
  · by_cases same : m = n
    · subst same
      simpa using stranger outside
    · simp [Ptb.peer_setPeer_ne _ _ same]

theorem updatePeer (h : s.Leads t) {n : Station} {r : PeerRecord} (admitted : t.admits n r) :
    s.Leads (t.updatePeer n r) := by
  have stored := h.setPeer admitted
  have thawed := stored.thaw
  exact .ite stored (.ite thawed (.ite (thawed.peerTrouble ..) (.ite (thawed.peerTrouble ..) thawed)))

theorem carryLoss (h : s.Leads t) (n : Station) : s.Leads (t.carryLoss n) := by
  unfold State.carryLoss
  split
  next due =>
    simp only [State.lossDue, State.expectedPeer, Bool.and_eq_true, decide_eq_true_eq] at due
    exact h.updatePeer ⟨fun own => absurd own due.1.1.2, fun outside => absurd due.1.1.1 outside⟩
  next => exact h

theorem carryLosses (h : s.Leads t) : s.Leads t.carryLosses :=
  List.foldlRecOn stations _ (motive := s.Leads) h fun _ k n _ => k.carryLoss n

end State.Leads

end Sys2Proof.Machine
end

section
/-! PROOFS. The elementary changes of the lock and of a sample event. -/
namespace Sys2Proof.Machine

/-! ### The lock -/

/-- A value clamped to ±m lies within it. -/
theorem natAbs_clampAbs_le (m : Nat) (x : Int) : (clampAbs m x).natAbs ≤ m := by
  unfold clampAbs
  split
  · omega
  · split <;> omega

theorem Ctb.writeC_c_le (c : Ctb) (v : Int) : (c.writeC v).c.natAbs ≤ (c.writeC v).f >>> 10 :=
  natAbs_clampAbs_le (c.f >>> 10) v

theorem Ptb.peer_aged (p : Ptb) (own n : Station) :
    (p.aged own).peer n = if n = own then p.peer n else (p.peer n).aged := by
  have same : n.toNat = own.toNat ↔ n = own := BitVec.toNat_inj
  simp [Ptb.peer, Ptb.aged, same]

theorem Ptb.peer_unfresh (p : Ptb) (own n : Station) :
    (p.unfresh own).peer n = if n = own then p.peer n else { p.peer n with fresh := false } := by
  have same : n.toNat = own.toNat ↔ n = own := BitVec.toNat_inj
  simp [Ptb.peer, Ptb.unfresh, same]

@[simp] theorem PeerRecord.aged_state (r : PeerRecord) : r.aged.state = r.state := by
  unfold PeerRecord.aged
  split <;> rfl

/-- Ageing makes no record fresh. -/
theorem PeerRecord.fresh_of_aged {r : PeerRecord} (h : r.aged.fresh = true) : r.fresh = true := by
  unfold PeerRecord.aged at h
  split at h
  · exact h
  · simp at h
    exact h.1

theorem nextStreak_le (k : Nat) (errors : List Int) : nextStreak k errors ≤ 4 := by
  unfold nextStreak
  split
  · exact Nat.min_le_left 4 _
  · exact Nat.zero_le 4

/-- An evaluation with a fresh error never leaves the lock ALONE (R125). -/
theorem nextLock_ne_alone (k : LockState) (streak : Nat) (errors : List Int) : nextLock k streak errors ≠ .alone := by
  cases k <;> simp only [nextLock] <;> split <;> simp

namespace State.Leads

variable {s t : State}

theorem line (h : s.Leads t) {l : Lnk} (queue : l.queue = t.lnk.queue := by rfl)
    (nextOrder : l.nextOrder = t.lnk.nextOrder := by rfl) (shifter : l.shifter = t.lnk.shifter := by rfl)
    (checkErrors : l.checkErrors = t.lnk.checkErrors := by rfl)
    (collisions : l.collisions = t.lnk.collisions := by rfl) : s.Leads (t.setLnk l) :=
  h.change (.line queue nextOrder (.inl shifter) checkErrors collisions)

/-- A change of LCK beside state and streak. -/
theorem setLck (h : s.Leads t) {k : Lck} (streak : k.streak = t.lck.streak := by rfl)
    (state : k.state = t.lck.state := by rfl) : s.Leads (t.setLck k) :=
  h.change (.lck (.inl ⟨streak, state⟩))

theorem evaluateLock (h : s.Leads t) (fBase : Nat) : s.Leads (t.evaluateLock fBase) := by
  simp only [State.evaluateLock]
  split
  next =>
    refine (h.change (.lck (.inr ⟨Nat.zero_le 4, fun _ => rfl⟩))).change (.ctb rfl (.inl rfl) (.inr ?_))
    exact t.ctb.writeC_c_le 0
  next =>
    split
    next e _ =>
      have evaluated := h.change (.lck (k := { t.lck with
        state := nextLock t.lck.state (nextStreak t.lck.streak (t.freshErrors.map (·.2))) (t.freshErrors.map (·.2))
        streak := 0 }) (.inr ⟨Nat.zero_le 4, fun _ => rfl⟩))
      have moved := evaluated.change (.ctb (c := (t.ctb.capture e).writeC 0) rfl (.inl rfl)
        (.inr ((t.ctb.capture e).writeC_c_le 0)))
      have unfresh := moved.change (.ptb (p := t.ptb.unfresh t.own)
        (by simp [Ptb.peer_unfresh, State.own]) fun n _ => by
          by_cases same : n = t.own <;> simp [Ptb.peer_unfresh, same])
      exact unfresh.line
    next =>
      refine (h.change (.lck (.inr ⟨nextStreak_le _ _, fun alone => absurd alone (nextLock_ne_alone _ _ _)⟩))).change
        (.ctb rfl (.inl rfl) (.inr ?_))
      exact t.ctb.writeC_c_le _

theorem carryEvaluation (h : s.Leads t) : s.Leads t.carryEvaluation := by
  unfold State.carryEvaluation
  split
  · exact .ite h (h.setLck.evaluateLock _)
  · exact h

theorem setPtb_aged (h : s.Leads t) : s.Leads (t.setPtb (t.ptb.aged t.own)) := by
  refine h.change (.ptb (by simp [Ptb.peer_aged]) fun n _ => ?_)
  by_cases same : n = t.own
  · simp [Ptb.peer_aged, same]
  · simpa [Ptb.peer_aged, same] using PeerRecord.fresh_of_aged

theorem commonWrap (h : s.Leads t) (a : Advance) : s.Leads (t.commonWrap a) := by
  have evaluated := ((h.offer (.mark a.markInstant)).setPtb_aged.setLck
    (k := { t.lck with waiting := some a.fBase })).carryEvaluation
  exact .ite (evaluated.setJnt _) evaluated

/-! ### The sample event -/

theorem closeFold (h : s.Leads t) : s.Leads t.closeFold := .ite h (.ite h.setFtu h.setFtu)

theorem applyPending (h : s.Leads t) : s.Leads t.applyPending := by
  unfold State.applyPending
  split
  next i l held =>
    exact (h.change (.profile (.inr held))).change (.syn (.inl rfl) (.inl rfl) (.inl rfl) (.inr (.inl rfl)))
  next => exact h

theorem ownWrap (h : s.Leads t) (x : SampleInputs) : s.Leads (t.ownWrap x) :=
  ((h.change (.fbm _)).closeFold.applyPending).setSeq

theorem countCycle (h : s.Leads t) (a : Advance) : s.Leads (t.countCycle a) := .ite h.setSeq.setFtu h

theorem freezeRetest (h : s.Leads t) : s.Leads t.freezeRetest := by
  have cleared := h.setSeq (q := { t.seq with retest := false })
  exact .ite (.ite cleared.freeze cleared) h

theorem startStep (h : s.Leads t) (a : Advance) {r : StepRecord} (held : t.seq.image = some r)
    (base : a.fBase = t.ctb.f) : s.Leads (t.startStep a r) := by
  have level := h.change (.startLevel held)
  have frequency := level.change (.startFrequency held)
  have overlays := frequency.change (.ovl (t.ovl.applyAll r.overlays))
  simp only [State.startStep, base]
  exact (((overlays.setFtu (u := t.startSettings r)).setJnt _).setSeq).offerStatus .started

theorem seqProgress (h : s.Leads t) (a : Advance) : s.Leads (t.seqProgress a) := by
  unfold State.seqProgress
  split
  · exact h
  · split
    · exact h.setSeq
    · refine .ite ?_ h
      split
      · exact h.setSeq.enterGathering _
      · exact h.setSeq
    · exact h

theorem rampProgress (h : s.Leads t) : s.Leads t.rampProgress :=
  (h.change (.levelStep _)).change (.rampStep _)


end State.Leads
end Sys2Proof.Machine
end

section
/-! PROOFS. The elementary changes of SEQ's work of a sample and of the events it makes due. -/
namespace Sys2Proof.Machine

/-! ### Losses that trip no station -/

/-- Two sequencer states between which a freeze or its end may have moved SEQ (R89). -/
def freezesOrThaws (p q : SeqState) : Prop := q = p ∨ ((p = .active ∨ p = .frozen) ∧ (q = .active ∨ q = .frozen))

/-- What a peer's trouble may do to a station that it does not trip: beside the records, the queue and the gate, SEQ
may freeze or go on (R89, R136, R156). -/
structure State.Mild (s t : State) : Prop where
  stc : t.stc = s.stc
  ctb : t.ctb = s.ctb
  syn : t.syn = s.syn
  ovl : t.ovl = s.ovl
  pls : t.pls = s.pls
  lck : t.lck = s.lck
  fbm : t.fbm = s.fbm
  ftu : t.ftu = s.ftu
  freeCount : t.freeCount = s.freeCount
  pending : t.pending = s.pending
  seq : t.seq = { s.seq with state := t.seq.state }
  state : freezesOrThaws s.seq.state t.seq.state

namespace State.Mild

variable {s t u : State}

theorem refl (s : State) : s.Mild s := ⟨rfl, rfl, rfl, rfl, rfl, rfl, rfl, rfl, rfl, rfl, rfl, .inl rfl⟩

theorem trans (h : s.Mild t) (k : t.Mild u) : s.Mild u where
  stc := k.stc.trans h.stc
  ctb := k.ctb.trans h.ctb
  syn := k.syn.trans h.syn
  ovl := k.ovl.trans h.ovl
  pls := k.pls.trans h.pls
  lck := k.lck.trans h.lck
  fbm := k.fbm.trans h.fbm
  ftu := k.ftu.trans h.ftu
  freeCount := k.freeCount.trans h.freeCount
  pending := k.pending.trans h.pending
  seq := by rw [k.seq, h.seq]
  state := by
    have first := h.state
    have second := k.state
    unfold freezesOrThaws at *
    grind

theorem image (h : s.Mild t) : t.seq.image = s.seq.image := by rw [h.seq]

theorem inEffect (h : s.Mild t) : t.inEffect = s.inEffect := by
  have state := h.state
  unfold freezesOrThaws at state
  unfold State.inEffect
  rw [h.image]
  grind

theorem policyInForce (h : s.Mild t) : t.policyInForce = s.policyInForce := by
  unfold State.policyInForce
  rw [h.inEffect, h.ftu, h.stc]

theorem setPtb (s : State) (p : Ptb) : s.Mild (s.setPtb p) := { refl s with }

theorem setFreeCount (h : s.Mild t) (n : Nat) : (s.setFreeCount n).Mild (t.setFreeCount n) :=
  { h with freeCount := rfl }

theorem freeze (s : State) : s.Mild s.freeze := by
  unfold State.freeze
  split
  next active => exact { refl s with seq := rfl, state := .inr ⟨.inl active, .inr rfl⟩ }
  next => exact refl s

theorem thaw (s : State) : s.Mild s.thaw := by
  unfold State.thaw
  split
  next frozen =>
    simp only [Bool.and_eq_true, decide_eq_true_eq] at frozen
    exact { refl s with seq := rfl, state := .inr ⟨.inr frozen.1, .inl rfl⟩ }
  next => exact refl s

theorem maskedTrouble (s : State) (n : Station) (r : WithdrawReason) : s.Mild (s.maskedTrouble n r) := by
  unfold State.maskedTrouble
  split
  · exact { refl s with }
  · exact refl s

theorem applyPolicy (mild : s.policyInForce ≠ .follow) (c : TripCause) : s.Mild (s.applyPolicy c) := by
  unfold State.applyPolicy
  split
  · exact refl s
  · split
    next follow => exact absurd follow mild
    · exact freeze s
    · exact refl s

theorem peerTrouble (mild : s.policyInForce ≠ .follow) (n : Station) (c : TripCause) (r : WithdrawReason) :
    s.Mild (s.peerTrouble n c r) := by
  have masked := maskedTrouble s n r
  simp only [State.peerTrouble, mild, decide_false, Bool.and_false, Bool.false_eq_true, if_false]
  exact masked.trans (applyPolicy (by rwa [masked.policyInForce]) c)

theorem updatePeer (mild : s.policyInForce ≠ .follow) (n : Station) (r : PeerRecord) : s.Mild (s.updatePeer n r) := by
  have stored := setPtb s (s.ptb.setPeer n r)
  have thawed := stored.trans (thaw _)
  simp only [State.updatePeer]
  split
  · exact stored
  · split
    · exact thawed
    · split
      · exact thawed.trans (peerTrouble (by rwa [thawed.policyInForce]) ..)
      · split
        · exact thawed.trans (peerTrouble (by rwa [thawed.policyInForce]) ..)
        · exact thawed

theorem carryLoss (mild : s.policyInForce ≠ .follow) (n : Station) : s.Mild (s.carryLoss n) := by
  unfold State.carryLoss
  split
  · exact updatePeer mild n _
  · exact refl s

/-- Under HOLD and IGNORE losses trip no station (R156). -/
theorem carryLosses (mild : s.policyInForce ≠ .follow) : s.Mild s.carryLosses :=
  List.foldlRecOn stations _ (motive := s.Mild) (refl s) fun _ h n _ =>
    h.trans (carryLoss (by rwa [h.policyInForce]) n)

end State.Mild

/-! ### What an evaluation of the lock leaves of CTB -/

/-- An evaluation writes C, and a capture θ; the rest of CTB stands (R10, R14). -/
theorem State.evaluateLock_ctb (s : State) (fBase : Nat) :
    (s.evaluateLock fBase).ctb
      = { s.ctb with theta := (s.evaluateLock fBase).ctb.theta, c := (s.evaluateLock fBase).ctb.c } := by
  simp only [State.evaluateLock]
  split
  · rfl
  · split <;> rfl

theorem State.carryEvaluation_ctb (s : State) :
    s.carryEvaluation.ctb
      = { s.ctb with theta := s.carryEvaluation.ctb.theta, c := s.carryEvaluation.ctb.c } := by
  unfold State.carryEvaluation
  split
  · split
    · rfl
    · exact State.evaluateLock_ctb (s.setLck _) _
  · rfl

@[simp] theorem State.carryEvaluation_ctb_f (s : State) : s.carryEvaluation.ctb.f = s.ctb.f := by
  rw [State.carryEvaluation_ctb]

theorem State.commonWrap_ctb (s : State) (a : Advance) :
    (s.commonWrap a).ctb
      = { s.ctb with theta := (s.commonWrap a).ctb.theta, c := (s.commonWrap a).ctb.c } := by
  simp only [State.commonWrap]
  split <;> exact State.carryEvaluation_ctb (((s.offer _).setPtb _).setLck _)

@[simp] theorem State.commonWrap_ctb_f (s : State) (a : Advance) : (s.commonWrap a).ctb.f = s.ctb.f := by
  rw [State.commonWrap_ctb]

/-- When a step starts on a sample (R75, R76, R132). -/
theorem State.starting_eq_some_iff {s : State} {a : Advance} {r : StepRecord} :
    s.starting a = some r ↔ s.seq.image = some r ∧ angleMet r.startAngle a = true
      ∧ ((s.seq.state = .armed ∧ s.seq.awaitOpen = true ∧ r.joint = none)
        ∨ (s.seq.state = .gathering ∧ s.jnt.gate = .complete ∧ s.jnt.angleTest = true)) := by
  simp only [State.starting]
  cases s.seq.image with
  | none => simp
  | some q =>
    cases s.seq.state <;> simp only [Option.ite_none_right_eq_some, Option.some.injEq] <;>
      grind [Option.isNone_iff_eq_none]

/-- The step that a sample starts is the one SEQ holds. -/
theorem State.image_of_starting {s : State} {a : Advance} {r : StepRecord} (h : s.starting a = some r) :
    s.seq.image = some r :=
  (State.starting_eq_some_iff.mp h).1

namespace State.Leads

variable {s t : State}

theorem stepWork (h : s.Leads t) {a : Advance} (base : a.fBase = t.ctb.f) : s.Leads (t.stepWork a) := by
  have ready := (h.freezeRetest.countCycle a).change (.ovl t.ovl.advance)
  simp only [State.stepWork]
  split
  next r starts => exact ready.startStep a (State.image_of_starting starts) (by simpa using base)
  next => exact ready.rampProgress.seqProgress a

theorem orderedWork (h : s.Leads t) {a : Advance} (base : a.fBase = t.ctb.f) : s.Leads (t.orderedWork a) := by
  obtain ⟨n, works | ⟨-, withheld⟩ | ⟨-, -, withheld⟩ | ⟨-, mild, works⟩⟩ := t.orderedWork_cases a
  · rw [works]
    exact (h.change (.freeCount n)).stepWork base
  · rw [withheld]
    exact ((h.change (.freeCount n)).change (.ovl _)).rampProgress
  · rw [withheld]
    exact ((h.change (.freeCount n)).change (.ovl _)).rampProgress
  · rw [works]
    refine (h.change (.freeCount n)).carryLosses.carryEvaluation.stepWork ?_
    rw [State.carryEvaluation_ctb_f, (State.Mild.carryLosses (s := t.setFreeCount n) mild).ctb]
    exact base

theorem foldUpdate (h : s.Leads t) (i : Int) (foldStep : Nat) : s.Leads (t.setFtu (t.ftu.foldUpdate i foldStep)) := by
  refine h.change (.ftu fun bounds => ?_)
  simp only [Ftu.foldUpdate]
  split <;> omega

theorem feedback (h : s.Leads t) (x : SampleInputs) : s.Leads (t.feedback x) := by
  have taken := h.change (.fbm (t.fbm.accumulate x.voltage.toInt x.current.toInt))
  exact .ite taken (taken.foldUpdate _ _)

theorem present (h : s.Leads t) (theta : Phase) : s.Leads (t.present theta) := by
  unfold State.present Syn.present
  split
  · exact h.setSyn
  · exact h.setSyn

theorem sample (h : s.Leads t) (x : SampleInputs) : s.Leads (t.sample x) := by
  have advanced := h.change (.ctb (c := t.ctb.advance) rfl (.inl rfl) (.inl rfl))
  have wrapped : s.Leads (if t.ctb.nextAdvance.commonWrap then (t.setCtb t.ctb.advance).commonWrap t.ctb.nextAdvance
      else t.setCtb t.ctb.advance) := .ite (advanced.commonWrap _) advanced
  simp only [State.sample]
  refine ((State.Leads.orderedWork (.ite (wrapped.ownWrap x) wrapped) ?_).present _).feedback x
  split <;> split <;> simp [Ctb.nextAdvance, Ctb.advance]

/-! ### The events that a sample makes due -/

theorem endStep (h : s.Leads t) (r : StepRecord) : s.Leads (t.endStep r) := by
  have ended := (h.writeBack r .completed t.liveAfterPass t.passMeasures).offerStatus .ended
  exact .ite (ended.setSeq.offerStatus .hold) (ended.moveOn r)

theorem carryStepEnd (h : s.Leads t) : s.Leads t.carryStepEnd := by
  unfold State.carryStepEnd
  split
  · exact h.endStep _
  · exact h

theorem carryMarkerLimit (h : s.Leads t) : s.Leads t.carryMarkerLimit := .ite (h.setSeq.fault .markerLimit) h

theorem carryOwnTrip (h : s.Leads t) : s.Leads t.carryOwnTrip :=
  .ite (h.carryMarkerLimit.setFtu.trip .foldback) h

theorem carryTimeout (h : s.Leads t) : s.Leads t.carryTimeout := .ite (h.withdraw .timeout) h

theorem carryLevelRampEnd (h : s.Leads t) : s.Leads t.carryLevelRampEnd :=
  .ite (h.change (.syn (.inl rfl) (.inr rfl) (.inl rfl) (.inl rfl))) h

theorem carryFrequencyRampEnd (h : s.Leads t) : s.Leads t.carryFrequencyRampEnd :=
  .ite (h.change (.ctb rfl (.inr rfl) (.inl rfl))) h

theorem carrySafeEnd (h : s.Leads t) : s.Leads t.carrySafeEnd :=
  .ite (h.change (.syn (y := t.syn.darken) (.inr rfl) (.inr rfl) (.inr (.inl rfl)) (.inl rfl))).setFtu h

theorem settle (h : s.Leads t) : s.Leads t.settle := by
  have ends : s.Leads t.settleEnds :=
    .ite (h.eitherOrder (fun _ k => k.carryStepEnd.carryMarkerLimit) fun _ k => k.carryOwnTrip)
      h.carryStepEnd.carryMarkerLimit.carryOwnTrip
  have wraps : s.Leads t.settleEnds.settleWraps :=
    .ite (ends.eitherOrder (fun _ k => k.carryLosses) fun _ k => k.carryTimeout).carryEvaluation
      ends.carryLosses.carryTimeout.carryEvaluation
  exact .ite wraps.carryLevelRampEnd.carryFrequencyRampEnd.carrySafeEnd h

end State.Leads
end Sys2Proof.Machine
end

section
/-! PROOFS. The elementary changes of the link, the frames and the requests. -/
namespace Sys2Proof.Machine

/-! ### The commands of the link -/

theorem StepRecord.empty_fits : StepRecord.empty.fits := by
  simp [StepRecord.fits, StepRecord.empty]

namespace State.Leads

variable {s t : State}

theorem passTicks (h : s.Leads t) (elapsed : Nat) : s.Leads (t.passTicks elapsed) :=
  h.change (.ctb rfl (.inl rfl) (.inl rfl))

theorem startBit (h : s.Leads t) : s.Leads t.startBit := h.line

theorem otherStartBit (h : s.Leads t) : s.Leads t.otherStartBit := .ite h.startBit (.ite h h.line)

theorem transmitStart (h : s.Leads t) : s.Leads t.transmitStart := by
  have discarded : s.Leads (t.setLnk { t.lnk with
      queue := (dropStale t.ctb.tick t.lnk.queue).1
      markStale := t.lnk.markStale || (dropStale t.ctb.tick t.lnk.queue).2 }) :=
    (h.change (.discard (dropStale_suffix t.ctb.tick t.lnk.queue))).line
  simp only [State.transmitStart]
  split
  next idle =>
    simp only [Bool.and_eq_true, Option.isNone_iff_eq_none] at idle
    split
    next => exact discarded
    next e rest first => exact (discarded.change (.send (t.filled e) first idle.2)).startBit
  next => exact h

theorem frameEnd (h : s.Leads t) : s.Leads t.frameEnd := h.line

theorem heard (h : s.Leads t) {f : State → State} (hf : ∀ u, s.Leads u → s.Leads (f u)) : s.Leads (t.heard f) :=
  .ite (hf _ h.frameEnd) h

theorem collide (h : s.Leads t) : s.Leads t.collide := by
  have counted := (h.change .giveBack).change .countCollision
  exact .ite (counted.line (l := { t.lnk.giveBack with
    collisions := satAdd 255 t.lnk.giveBack.collisions 1, ownAborted := true })) h

theorem badFrame (h : s.Leads t) : s.Leads t.badFrame :=
  h.heard fun _ k => .ite k (k.change (.countError true))

/-! ### Frames -/

theorem received (h : s.Leads t) (sender : NodeNumber) (isThis : Payload → Bool) {dispatch : State → State}
    (hd : ∀ u, s.Leads u → s.Leads (dispatch u)) : s.Leads (t.received sender isThis dispatch) := by
  refine h.heard fun u k => .ite ?_ (hd u k)
  split
  · exact .ite (hd _ (k.change (.line rfl rfl (.inr rfl) rfl rfl))) (k.fault _)
  · exact k.fault _

/-- A MARK is admitted: it leaves the station's own presence, error, freshness and age alone, and gives no error to a
number at or above the count (R118, R119). -/
theorem markRecord_admitted (t : State) (n : Station) (m : MarkFields) : t.admits n (t.markRecord n m) := by
  refine ⟨fun own => ?_, fun outside => ?_⟩
  · simp [State.markRecord, own, State.expectedPeer]
  · simp only [State.markRecord, State.expectedPeer, outside]
    by_cases own : n = t.own <;> simp [own]

theorem completeBarrier (h : s.Leads t) : s.Leads t.completeBarrier := by
  simp only [State.completeBarrier]
  split
  · exact (h.remove _).setJnt _
  · exact h.setJnt _

theorem testBarrier (h : s.Leads t) (n : Station) (tag : Tag) : s.Leads (t.testBarrier n tag) := by
  have joined : s.Leads
      (if n = t.own && tag = t.jnt.tag then t.setJnt { t.jnt with ownJoin := true } else t) :=
    .ite (h.setJnt _) h
  exact .ite (.ite joined.completeBarrier joined) h

theorem heardWithdraw (h : s.Leads t) (tag : Tag) : s.Leads (t.heardWithdraw tag) := .ite h.abandon h

/-! ### Requests -/

theorem reply (h : s.Leads t) (req : Requester) (p : Payload) (proper : ∀ m, p ≠ .mark m := by nofun) :
    s.Leads (t.reply req p) :=
  .ite h (h.offer _ fun _ m same => proper m (TxItem.frame.inj same).2)

theorem answer (h : s.Leads t) (req : Requester) (kind : RequestKind) (first : Byte) (code : AnswerCode) :
    s.Leads (t.answer req kind first code) := h.reply req _

theorem placeProfile (h : s.Leads t) (i : ProfileIndex) {l : List ProfileEntry} (fits : profileFits l) :
    s.Leads (t.placeProfile i l) :=
  .ite (h.change (.syn (.inl rfl) (.inl rfl) (.inl rfl) (.inr (.inr ⟨i, l, rfl, fits⟩))))
    (h.change (.profile (.inl fits)))

theorem startRun (h : s.Leads t) (start : Option Slot) : s.Leads (t.startRun start) := by
  have pointed : s.Leads (t.setSeq (t.seq.runFrom start)) := h.setSeq (by cases start <;> rfl)
  have energized : s.Leads ((t.setSeq (t.seq.runFrom start)).setSyn t.syn.energize) := by
    unfold Syn.energize
    split
    · exact pointed.change (.syn (.inr rfl) (.inr rfl) (.inl rfl) (.inl rfl))
    · exact pointed.setSyn
  exact ((energized.change .energized).offerStatus .run).takeStep

theorem suspendNow (h : s.Leads t) : s.Leads t.suspendNow := h.dropImage.offerStatus .suspend

theorem suspend (h : s.Leads t) : s.Leads t.suspend := by
  unfold State.suspend
  split
  · exact h.setSeq
  · exact h.setSeq
  · exact h.suspendNow
  · exact (h.pointToNext _).suspendNow
  · exact h.suspendNow
  · exact h

theorem release (h : s.Leads t) : s.Leads t.release := by
  unfold State.release
  split
  · exact (h.offerStatus .release).moveOn _
  · exact h

theorem abort (h : s.Leads t) : s.Leads t.abort :=
  .ite h (((h.dropStep .aborted .aborted).rest .idle).enterFalling.offerStatus .abort)

theorem clearSticky (h : s.Leads t) : s.Leads t.clearSticky := h.setSyn.setFtu.setLck.line

theorem clearStop (h : s.Leads t) : s.Leads t.clearStop :=
  ((h.clearSticky.change (.ftu (u := t.clearSticky.ftu.restored) fun _ => by simp [Ftu.restored])).setSeq).offerStatus
    .clear

end State.Leads

end Sys2Proof.Machine
end

section
/-! PROOFS. What the writing requests store, and that every step is a run of elementary changes. -/
namespace Sys2Proof.Machine

/-! ### What the writing requests store -/

theorem clampRange_bounds {lo hi : Nat} (le : lo ≤ hi) (x : Nat) : lo ≤ clampRange lo hi x ∧ clampRange lo hi x ≤ hi := by
  unfold clampRange
  omega

theorem toNat_clampWord {lo hi : Nat} (le : lo ≤ hi) (top : hi < 65536) (x : Word16) :
    (clampWord lo hi x).toNat = clampRange lo hi x.toNat := by
  have := clampRange_bounds le x.toNat
  simp only [clampWord, BitVec.toNat_ofNat]
  omega

theorem clampWord_bounds {lo hi : Nat} (le : lo ≤ hi) (top : hi < 65536) (x : Word16) :
    lo ≤ (clampWord lo hi x).toNat ∧ (clampWord lo hi x).toNat ≤ hi := by
  rw [toNat_clampWord le top]
  exact clampRange_bounds le _

/-- The code −32,768 alone is not stored as sent (R62). -/
theorem clampCode_eq (c : Code) : clampCode c = if c = 0x8000 then 0x8001 else c := by
  have lowest : c.toInt = -32768 ↔ c = 0x8000 := by
    rw [← BitVec.toInt_inj]
    rfl
  simp only [clampCode, lowest]
  rfl

theorem clampCode_ne (c : Code) : clampCode c ≠ 0x8000 := by
  rw [clampCode_eq]
  split
  · decide
  · assumption

/-- The parameters of an ARM entry are stored within their ranges (R62). -/
theorem OverlayArm.clamped_fits (a : OverlayArm) : a.clamped.fits := by
  cases a with
  | tone f b =>
    refine ⟨?_, (clampWord_bounds (by omega) (by omega) b).2⟩
    split
    · decide
    · omega
  | offset c => exact clampCode_ne c
  | notch d _ _ => exact (clampWord_bounds (by omega) (by omega) d).2
  | flattop b _ _ => exact (clampWord_bounds (by omega) (by omega) b).2
  | force c _ _ => exact clampCode_ne c

theorem length_of_namedList {α β : Type} {f : α → Option β} {l : List α} {m : List β} (h : namedList f l = some m) :
    m.length = l.length := by
  induction l generalizing m with
  | nil => cases h; rfl
  | cons a l ih =>
    simp only [namedList] at h
    split at h
    next rest => cases h; simp [ih rest]
    next => cases h

/-- The parts of a record whose codes are named (R61, R62). -/
theorem namedRecord_eq_some {raw : RawRecord} {r : StepRecord} (h : namedRecord raw = some r) :
    stepKindOf raw.kind = some r.kind ∧ namedList overlayOf raw.overlays = some r.overlays ∧ r.outcome = none := by
  simp only [namedRecord] at h
  split at h
  next kind _ _ _ _ overlays => cases h; exact ⟨kind, overlays, rfl⟩
  next => cases h

/-- Clamping brings every value of a record of at most four overlay entries within its range (R62). -/
theorem StepRecord.clamped_fits {r : StepRecord} (entries : r.overlays.length ≤ 4) : r.clamped.fits := by
  refine ⟨fun l h => ?_, fun f h => ?_, fun j h => ?_, fun c h => ?_, fun e he a h => ?_, by simpa [clamped] using entries⟩
  · obtain ⟨l, -, rfl⟩ := Option.map_eq_some_iff.mp h
    exact (clampWord_bounds (by omega) (by omega) l).2
  · obtain ⟨f, -, rfl⟩ := Option.map_eq_some_iff.mp h
    exact clampWord_bounds (by omega) (by omega) f
  · obtain ⟨j, -, rfl⟩ := Option.map_eq_some_iff.mp h
    show (if j.timeout = 0 then 1 else j.timeout) ≠ 0
    split
    · decide
    · assumption
  · obtain ⟨c, -, rfl⟩ := Option.map_eq_some_iff.mp h
    exact clampWord_bounds (by omega) (by omega) c
  · obtain ⟨e, -, rfl⟩ := List.mem_map.mp he
    obtain ⟨a, -, rfl⟩ := Option.map_eq_some_iff.mp h
    exact a.clamped_fits

/-- A loop marker keeps no value that R62 bounds. -/
theorem StepRecord.trimmed_fits {r : StepRecord} (fits : r.fits) : r.trimmed.fits := by
  unfold StepRecord.trimmed
  split
  · exact fits
  · simp [StepRecord.fits, StepRecord.empty]
  · simp [StepRecord.fits, StepRecord.empty]

/-- What a STEP_WRITE stores, in its parts (R61, R62). -/
theorem storeRecord_eq_some_iff {own : Station} {count : Nat} {raw : RawRecord} {r : StepRecord} {clamped : Bool} :
    storeRecord own count raw = some (r, clamped) ↔
      ∃ q, namedRecord raw = some q ∧ raw.overlays.length ≤ 4 ∧ (∀ j, q.joint = some j → maskFits own count j.mask = true)
        ∧ r = q.clamped.trimmed ∧ clamped = decide (q.clamped ≠ q) := by
  unfold storeRecord
  cases namedRecord raw with
  | none => simp
  | some q =>
    cases joint : q.joint <;> grind

/-- What a STEP_WRITE stores lies within its ranges (R61, R62). -/
theorem storeRecord_fits {own : Station} {count : Nat} {raw : RawRecord} {r : StepRecord} {clamped : Bool}
    (h : storeRecord own count raw = some (r, clamped)) : r.fits := by
  obtain ⟨q, named, entries, -, rfl, -⟩ := storeRecord_eq_some_iff.mp h
  obtain ⟨-, overlays, -⟩ := namedRecord_eq_some named
  exact StepRecord.trimmed_fits (StepRecord.clamped_fits (by rwa [length_of_namedList overlays]))

/-- A profile of at most 12 entries is stored within its ranges (R58, R64). -/
theorem profileFits_map_clamped {l : List ProfileEntry} (short : l.length ≤ 12) :
    profileFits (l.map ProfileEntry.clamped) := by
  refine ⟨by simpa using short, fun e he => ?_⟩
  obtain ⟨e, -, rfl⟩ := List.mem_map.mp he
  have order := clampRange_bounds (lo := 2) (hi := 50) (by omega) e.order.toNat
  refine ⟨?_, ?_, (clampWord_bounds (by omega) (by omega) e.amplitude).2⟩ <;>
    (simp only [ProfileEntry.clamped, BitVec.toNat_ofNat]; omega)

/-! ### Every command -/

namespace State.Leads

theorem taking {s t : State} {f : State → State} (h : s.taking f = .next t) (hf : ∀ u, s.Leads u → s.Leads (f u)) :
    s.Leads t := by
  obtain rfl := Host.Outcome.next.inj h
  exact .ite (hf _ (refl s).settle) (refl s)

theorem carrying {s t : State} {f : State → State} (h : s.carrying f = .next t) (hf : s.Leads (f s)) : s.Leads t := by
  obtain rfl := Host.Outcome.next.inj h
  exact .ite hf (refl s)

theorem requested {s t : State} {f : State → State} (h : s.requested f = .next t)
    (hf : ∀ u, s.Leads u → s.Leads (f u)) : s.Leads t :=
  taking h fun _ k => k.heard hf

theorem resetBy (s : State) (kind : StartCause) : s.Leads (s.resetBy kind) := by
  have settled : s.Leads (if s.running then s.settle else s) := .ite (refl s).settle (refl s)
  exact settled.change (.assertReset kind)

theorem setup {s t : State} {req : Requester} {v : RawSetup} (h : execSetup req v s = .next t) : s.Leads t := by
  refine requested h fun u k => .ite (k.answer ..) ?_
  split
  · exact k.answer ..
  next policy _ =>
    refine (k.answer ..).change (.setup ?_)
    exact clampRange_bounds (by omega) v.frequency.toNat

theorem stepWrite {s t : State} {req : Requester} {slot : Slot} {raw : RawRecord}
    (h : execStepWrite req slot raw s = .next t) : s.Leads t := by
  refine requested h fun u k => .ite (k.answer ..) ?_
  split
  · exact k.answer ..
  next stored => exact (k.answer ..).change (.stored slot (storeRecord_fits stored))

theorem profileWrite {s t : State} {req : Requester} {index count : Byte} {entries : List ProfileEntry}
    (h : execProfileWrite req index count entries s = .next t) : s.Leads t := by
  refine requested h fun u k => ?_
  split
  · exact k.answer ..
  next inRange =>
    simp only [Bool.or_eq_true, decide_eq_true_eq, not_or] at inRange
    exact (k.answer ..).placeProfile _ (profileFits_map_clamped (by omega))

end State.Leads

/-- Every command comes to a run of elementary changes. -/
theorem State.leads_exec {s t : State} {c : Instr} (h : exec c s = .next t) : s.Leads t := by
  have here := State.Leads.refl s
  cases c with
  | powerOn | supplyLow | resetPin =>
    obtain rfl := Host.Outcome.next.inj h
    exact .resetBy s _
  | resetReleased | powerUpDelayEnd =>
    obtain rfl := Host.Outcome.next.inj h
    exact .ite (here.change (.startPhase _)) here
  | oscillatorCountEnd straps =>
    obtain rfl := Host.Outcome.next.inj h
    exact .ite (here.change (.startUp straps)) here
  | sampleEvent x => rw [exec_sampleEvent] at h; exact .taking h fun _ k => k.sample x
  | levelRampEnd => exact .carrying h here.carryLevelRampEnd
  | frequencyRampEnd => exact .carrying h here.carryFrequencyRampEnd
  | safeRampDownEnd => exact .carrying h here.carrySafeEnd
  | stepDurationEnd => exact .carrying h here.carryStepEnd
  | markerLimit => exact .carrying h here.carryMarkerLimit
  | ownTrip => exact .carrying h here.carryOwnTrip
  | peerLost n =>
    rw [exec_peerLost] at h
    exact .carrying h (.ite (here.carryStepEnd.carryMarkerLimit.carryLoss n).carryEvaluation here)
  | gatherTimeout => exact .carrying h here.carryTimeout
  | lineIdle => rw [exec_lineIdle] at h; exact .taking h fun _ k => .ite k k.line
  | transmitStart elapsed =>
    rw [exec_transmitStart] at h
    exact .taking h fun _ k => (k.passTicks elapsed).transmitStart
  | arbitrationLoss => rw [exec_arbitrationLoss] at h; exact .taking h fun _ k => k.change .giveBack
  | collision => rw [exec_collision] at h; exact .taking h fun _ k => k.collide
  | badFrame => rw [exec_badFrame] at h; exact .taking h fun _ k => k.badFrame
  | markReceived n m =>
    rw [exec_markReceived] at h
    exact .taking h fun _ k => k.received _ _ fun u l => l.updatePeer (State.Leads.markRecord_admitted u n m)
  | tripReceived n cause slot =>
    rw [exec_tripReceived] at h
    exact .taking h fun _ k => k.received _ _ fun _ l => l.updatePeer (by simp [State.admits])
  | joinReceived n tag mask =>
    rw [exec_joinReceived] at h
    exact .taking h fun _ k => k.received _ _ fun _ l => (l.updatePeer (by simp [State.admits])).testBarrier n tag
  | withdrawReceived n tag reason =>
    rw [exec_withdrawReceived] at h
    exact .taking h fun _ k => k.received _ _ fun _ l => (l.updatePeer (by simp [State.admits])).heardWithdraw tag
  | statusReceived n cause q =>
    rw [exec_statusReceived] at h
    exact .taking h fun _ k => k.received _ _ fun _ l =>
      l.updatePeer (by simp [State.admits, PeerRecord.afterStatus])
  | replyFrameReceived n kind =>
    rw [exec_replyFrameReceived] at h
    exact .taking h fun _ k => k.received _ _ fun _ l => l
  | setup req v => exact .setup h
  | stepWrite req slot raw => exact .stepWrite h
  | profileWrite req index count entries => exact .profileWrite h
  | stepRead req slot => rw [exec_stepRead] at h; exact .requested h fun _ k => k.reply ..
  | run req start =>
    rw [exec_run] at h
    exact .requested h fun _ k => .ite ((k.answer ..).startRun start) (k.answer ..)
  | suspend req => rw [exec_suspend] at h; exact .requested h fun _ k => (k.answer ..).suspend
  | release req => rw [exec_release] at h; exact .requested h fun _ k => (k.answer ..).release
  | abort req => rw [exec_abort] at h; exact .requested h fun _ k => (k.answer ..).abort
  | clear req =>
    rw [exec_clear] at h
    exact .requested h fun _ k => .ite (k.answer ..) (.ite (k.answer ..).clearStop (k.answer ..).clearSticky)
  | query req => rw [exec_query] at h; exact .requested h fun _ k => k.reply ..
  | unreadableRequest req kind first =>
    rw [exec_unreadableRequest] at h
    exact .requested h fun _ k => k.answer ..
  | startBitSeen elapsed =>
    rw [exec_startBitSeen] at h
    exact .taking h fun _ k => (k.passTicks elapsed).otherStartBit
  | dominantBitNotIdle => rw [exec_dominantBitNotIdle] at h; exact .taking h fun _ k => .ite k k.line
  | ignoredFrameReceived sender =>
    rw [exec_ignoredFrameReceived] at h
    exact .taking h fun _ k => k.received _ _ fun _ l => l
  | ownAbortedFrameDiscarded =>
    rw [exec_ownAbortedFrameDiscarded] at h
    exact .taking h fun _ k => .ite (k.heard fun _ l => l) k

/-- Every step comes to a run of elementary changes. -/
theorem State.leads_step {s t : State} (h : step s = .next t) : s.Leads t := by
  have here := State.Leads.refl s
  unfold step at h
  split at h
  · obtain rfl := Host.Outcome.next.inj h
    exact .ite (.ite here.settle (here.passTicks 1)) here
  next rest _ => exact (here.change (.pending rest)).trans (State.leads_exec h)

/-- What every elementary change keeps, every step keeps. -/
theorem step_keeps {p : State → Prop} (change : ∀ u v, p u → u.Change v → p v) {s t : State} (start : p s)
    (h : step s = .next t) : p t :=
  (State.leads_step h).keeps start change

end Sys2Proof.Machine
end

section
/-! PROOFS. The transmit queue (R105 to R109): what returns to it, and that every step keeps it in order. -/

namespace Sys2Proof.Machine

/-! ### Entries that enter an ordered queue -/

/-- The conditions of `Lnk.ordered` on the queue alone, with the next entry order. -/
structure QueueOrdered (next : Nat) (q : List TxEntry) : Prop where
  length : q.length ≤ 8
  marks : (q.filter TxEntry.isMark).length ≤ 1
  sorted : q.Pairwise TxEntry.before
  below : ∀ e ∈ q, e.order < next
  timing : ∀ e ∈ q, e.cls = 1 → e.isMark = true

theorem Lnk.ordered_iff (l : Lnk) :
    l.ordered ↔ QueueOrdered l.nextOrder l.queue ∧ ∀ x, l.shifter = some x →
      x.entry.order < l.nextOrder ∧ (x.entry.cls = 1 → x.entry.isMark = true)
        ∧ ∀ e ∈ l.queue, e.cls = x.entry.cls → x.entry.order < e.order :=
  ⟨fun ⟨a, b, c, d, e, f⟩ => ⟨⟨a, b, c, d, e⟩, f⟩, fun ⟨⟨a, b, c, d, e⟩, f⟩ => ⟨a, b, c, d, e, f⟩⟩

/-- Entries taken out of an ordered queue leave it in order. -/
theorem QueueOrdered.sublist {n : Nat} {p q : List TxEntry} (h : QueueOrdered n q) (sub : p.Sublist q) :
    QueueOrdered n p where
  length := sub.length_le.trans h.length
  marks := (sub.filter _).length_le.trans h.marks
  sorted := h.sorted.sublist sub
  below e mem := h.below e (sub.subset mem)
  timing e mem := h.timing e (sub.subset mem)

theorem QueueOrdered.mono {n m : Nat} {q : List TxEntry} (h : QueueOrdered n q) (le : n ≤ m) : QueueOrdered m q :=
  { h with below := fun e mem => (h.below e mem).trans_le le }

/-- A queue in order with an entry more, put between the entries that come before it and those that come behind. -/
theorem QueueOrdered.insert {n : Nat} {p q : List TxEntry} {e : TxEntry} (h : QueueOrdered n (p ++ q))
    (room : (p ++ q).length < 8) (before : ∀ y ∈ p, y.before e) (behind : ∀ y ∈ q, e.before y)
    (order : e.order < n) (timing : e.cls = 1 → e.isMark = true)
    (single : e.isMark = true → ∀ y ∈ p ++ q, y.isMark = false) : QueueOrdered n (p ++ e :: q) := by
  obtain ⟨sp, sq, across⟩ := List.pairwise_append.mp h.sorted
  refine ⟨by simp at room ⊢; omega, ?_, ?_, ?_, ?_⟩
  · have marks := h.marks
    by_cases mark : e.isMark = true
    · have none : (p ++ q).filter TxEntry.isMark = [] := by simpa [or_imp, forall_and] using single mark
      have : (p ++ e :: q).filter TxEntry.isMark = [e] := by
        rw [List.filter_append] at none ⊢
        obtain ⟨np, nq⟩ := List.append_eq_nil_iff.mp none
        simp [np, nq, mark]
      simp [this]
    · simpa [List.filter_append, mark] using marks
  · refine List.pairwise_append.mpr ⟨sp, List.pairwise_cons.mpr ⟨behind, sq⟩, fun y hy z hz => ?_⟩
    obtain rfl | hz := List.mem_cons.mp hz
    · exact before y hy
    · exact across y hy z hz
  · simpa [or_imp, forall_and, order] using h.below
  · intro y hy
    obtain hy | rfl | hy : y ∈ p ∨ y = e ∨ y ∈ q := by simpa using hy
    · exact h.timing y (by simp [hy])
    · exact timing
    · exact h.timing y (by simp [hy])

/-- Before a class of an ordered queue, an entry goes behind those of lesser classes. -/
theorem txReinsert_eq_filter {q : List TxEntry} (sorted : q.Pairwise (·.cls ≤ ·.cls)) (e : TxEntry) :
    txReinsert q e = q.filter (fun y => y.cls < e.cls) ++ e :: q.filter (fun y => ¬ y.cls < e.cls) := by
  induction q with
  | nil => rfl
  | cons x xs ih =>
    obtain ⟨first, rest⟩ := List.pairwise_cons.mp sorted
    by_cases h : x.cls < e.cls
    · simp [txReinsert, h, ih rest]
    · have atLeast : ∀ y ∈ xs, e.cls ≤ y.cls := fun y queued => (not_lt.mp h).trans (first y queued)
      have before : xs.filter (fun y => y.cls < e.cls) = [] := by simpa using atLeast
      have behind : xs.filter (fun y => e.cls ≤ y.cls) = xs := by simpa using atLeast
      simp [txReinsert, h, not_lt.mp h, before, behind]

/-- Entries in order of class are those of lesser classes and then the others. -/
theorem filter_append_filter_not {q : List TxEntry} (p : TxEntry → Bool)
    (sorted : q.Pairwise fun x y => p y = true → p x = true) : q.filter p ++ q.filter (fun y => !p y) = q := by
  induction q with
  | nil => rfl
  | cons x xs ih =>
    obtain ⟨first, rest⟩ := List.pairwise_cons.mp sorted
    by_cases h : p x = true
    · simp [h, ih rest]
    · have before : xs.filter p = [] := by simpa using fun y hy => mt (first y hy) h
      have behind : xs.filter (fun y => !p y) = xs := by simpa using fun y hy => mt (first y hy) h
      simp [h, before, behind]

section
variable {n : Nat} {q : List TxEntry} {e : TxEntry}

theorem QueueOrdered.txInsert (h : QueueOrdered n q) (room : q.length < 8) (newest : ∀ y ∈ q, y.order < e.order)
    (order : e.order < n) (timing : e.cls = 1 → e.isMark = true)
    (single : e.isMark = true → ∀ y ∈ q, y.isMark = false) : QueueOrdered n (txInsert q e) := by
  have classes : q.Pairwise (·.cls ≤ ·.cls) := h.sorted.imp TxEntry.before.cls_le
  have split := filter_append_filter_not (fun y => y.cls ≤ e.cls)
    (classes.imp fun {x y} le up => by simp only [decide_eq_true_eq] at *; omega)
  rw [txInsert_eq_filter classes e]
  simp only [← decide_not] at split ⊢
  refine QueueOrdered.insert (by rwa [split]) (by rwa [split]) (fun y hy => ?_) (fun y hy => ?_) order timing
    (by rwa [split])
  · obtain ⟨queued, le⟩ := List.mem_filter.mp hy
    simp only [decide_eq_true_eq] at le
    have := newest y queued
    unfold TxEntry.before
    omega
  · obtain ⟨queued, gt⟩ := List.mem_filter.mp hy
    simp only [decide_eq_true_eq] at gt
    exact .inl (by omega)

theorem QueueOrdered.txReinsert (h : QueueOrdered n q) (room : q.length < 8)
    (oldest : ∀ y ∈ q, y.cls = e.cls → e.order < y.order)
    (order : e.order < n) (timing : e.cls = 1 → e.isMark = true)
    (single : e.isMark = true → ∀ y ∈ q, y.isMark = false) : QueueOrdered n (txReinsert q e) := by
  have classes : q.Pairwise (·.cls ≤ ·.cls) := h.sorted.imp TxEntry.before.cls_le
  have split := filter_append_filter_not (fun y => y.cls < e.cls)
    (classes.imp fun {x y} le up => by simp only [decide_eq_true_eq] at *; omega)
  rw [txReinsert_eq_filter classes e]
  simp only [← decide_not] at split ⊢
  refine QueueOrdered.insert (by rwa [split]) (by rwa [split]) (fun y hy => ?_) (fun y hy => ?_) order timing
    (by rwa [split])
  · obtain ⟨queued, lt⟩ := List.mem_filter.mp hy
    exact .inl (by simpa using lt)
  · obtain ⟨queued, ge⟩ := List.mem_filter.mp hy
    simp only [decide_eq_true_eq] at ge
    by_cases same : y.cls = e.cls
    · exact .inr ⟨same.symm, oldest y queued same⟩
    · exact .inl (by omega)

end

/-- A frame that enters goes into entries of the queue with room for it, or the queue stands. -/
theorem Lnk.enter_queue_cases {l : Lnk} (place : List TxEntry → TxEntry → List TxEntry) (e : TxEntry)
    (length : l.queue.length ≤ 8) (sorted : l.queue.Pairwise (·.cls ≤ ·.cls)) :
    (l.enter place e).queue = l.queue
      ∨ ∃ q, q.Sublist l.queue ∧ q.length < 8 ∧ (l.enter place e).queue = place q e := by
  by_cases room : l.queue.length < 8
  · rw [Lnk.enter_of_room room]
    exact .inr ⟨l.queue, .refl _, room, rfl⟩
  have full : l.queue.length = 8 := by omega
  obtain empty | ⟨q, z, split⟩ := l.queue.eq_nil_or_concat'
  · simp [empty] at full
  have greatest : ∀ y ∈ q, y.cls ≤ z.cls := by
    rw [split, List.pairwise_append] at sorted
    exact fun y hy => sorted.2.2 y hy z (List.mem_singleton_self z)
  by_cases less : e.cls < z.cls
  · rw [Lnk.enter_of_displacing full split greatest less]
    refine .inr ⟨q, split ▸ List.sublist_append_left q [z], ?_, rfl⟩
    simp [split] at full
    omega
  · have least : ∀ y ∈ l.queue, y.cls ≤ e.cls := by
      intro y hy
      rw [split, List.mem_append, List.mem_singleton] at hy
      obtain hy | rfl := hy
      · exact (greatest y hy).trans (not_lt.mp less)
      · exact not_lt.mp less
    rw [Lnk.enter_of_lost full least]
    exact .inl rfl

/-! ### Every change of LNK keeps the order -/

section
variable {l : Lnk}

/-- A shifter that may return to the entries of the queue may return to fewer of them. -/
theorem Lnk.ordered.sublist (h : l.ordered) {q : List TxEntry} (sub : q.Sublist l.queue) :
    Lnk.ordered { l with queue := q } := by
  obtain ⟨queue, shifter⟩ := l.ordered_iff.mp h
  refine (Lnk.ordered_iff _).mpr ⟨queue.sublist sub, fun x loaded => ?_⟩
  obtain ⟨order, timing, oldest⟩ := shifter x loaded
  exact ⟨order, timing, fun e mem => oldest e (sub.subset mem)⟩

/-- The order turns on the queue, the next entry order and the shifter alone. -/
theorem Lnk.ordered.congr (h : l.ordered) {m : Lnk} (queue : m.queue = l.queue) (next : m.nextOrder = l.nextOrder)
    (shifter : m.shifter = l.shifter ∨ m.shifter = none) : m.ordered := by
  obtain ⟨ordered, loaded⟩ := l.ordered_iff.mp h
  refine m.ordered_iff.mpr ⟨by rwa [queue, next], fun x full => ?_⟩
  obtain same | empty := shifter
  · rw [queue, next]
    exact loaded x (same ▸ full)
  · rw [empty] at full
    cases full

/-- A queue in which an entry is the one MARK, in its parts. -/
theorem Lnk.ordered.split_mark (h : l.ordered) (marked : l.queue.any TxEntry.isMark = true) :
    ∃ pre old post, l.queue = pre ++ old :: post ∧ old.isMark = true ∧ ∀ y ∈ pre ++ post, y.isMark = false := by
  obtain ⟨old, queued, mark⟩ := List.any_eq_true.mp marked
  obtain ⟨pre, post, split⟩ := List.append_of_mem queued
  refine ⟨pre, old, post, split, mark, ?_⟩
  have marks := (l.ordered_iff.mp h).1.marks
  rw [split] at marks
  simp only [List.filter_append, List.filter_cons, mark, if_true, List.length_append, List.length_cons] at marks
  have pre' : pre.filter TxEntry.isMark = [] := List.eq_nil_of_length_eq_zero (by omega)
  have post' : post.filter TxEntry.isMark = [] := List.eq_nil_of_length_eq_zero (by omega)
  simp only [List.filter_eq_nil_iff, Bool.not_eq_true] at pre' post'
  exact List.forall_mem_append.mpr ⟨pre', post'⟩

theorem TxEntry.cls_of_isMark {e : TxEntry} (h : e.isMark = true) : e.cls = 1 := by
  unfold TxEntry.isMark at h
  unfold TxEntry.cls
  split at h <;> simp_all

/-- A MARK offered while one is queued takes its place, and the queue stays in order (R107). -/
theorem Lnk.ordered.offer_mark (h : l.ordered) (marked : l.queue.any TxEntry.isMark = true) (j : Tick) :
    (l.offer (.mark j)).ordered := by
  obtain ⟨pre, old, post, split, mark, single⟩ := h.split_mark marked
  obtain ⟨queue, shifter⟩ := l.ordered_iff.mp h
  rw [Lnk.offer_mark_of_queued split mark single]
  have oldCls := TxEntry.cls_of_isMark mark
  rw [split] at queue
  have others := queue.sublist (p := pre ++ post) (by simp)
  obtain ⟨sp, sq, across⟩ := List.pairwise_append.mp queue.sorted
  obtain ⟨behind, -⟩ := List.pairwise_cons.mp sq
  have distinct : ∀ y ∈ pre ++ post, y.cls ≠ 1 := fun y hy one =>
    Bool.false_ne_true ((single y hy).symm.trans (others.timing y hy one))
  refine (Lnk.ordered_iff _).mpr ⟨(others.mono (Nat.le_succ _)).insert ?_ ?_ ?_ (Nat.lt_succ_self _) (fun _ => rfl)
    fun _ => single, fun x full => ?_⟩
  · have := queue.length
    simp at this ⊢
    omega
  · intro y hy
    have le := (across y hy old List.mem_cons_self).cls_le
    have ne := distinct y (List.mem_append_left _ hy)
    exact .inl (show y.cls < 1 by omega)
  · intro y hy
    have le := (behind y hy).cls_le
    have ne := distinct y (List.mem_append_right _ hy)
    exact .inl (show 1 < y.cls by omega)
  · obtain ⟨order, timing, oldest⟩ := shifter x full
    refine ⟨order.trans (Nat.lt_succ_self _), timing, fun e he same => ?_⟩
    obtain he | rfl | he : e ∈ pre ∨ e = _ ∨ e ∈ post := by simpa using he
    · exact oldest e (by simp [split, he]) same
    · exact order
    · exact oldest e (by simp [split, he]) same

/-- An offered frame leaves the queue in order (R106, R107). -/
theorem Lnk.ordered.offer (h : l.ordered) {x : TxItem} (proper : ∀ a m, x ≠ .frame a (.mark m)) :
    (l.offer x).ordered := by
  obtain ⟨queue, shifter⟩ := l.ordered_iff.mp h
  by_cases second : ({ order := l.nextOrder, item := x } : TxEntry).isMark = true
      ∧ l.queue.any TxEntry.isMark = true
  · obtain ⟨mark, marked⟩ := second
    cases x with
    | mark j => exact h.offer_mark marked j
    | frame a p => cases mark
  have single : ({ order := l.nextOrder, item := x } : TxEntry).isMark = true → ∀ y ∈ l.queue, y.isMark = false :=
    fun mark => by simpa [mark] using second
  have timing : ({ order := l.nextOrder, item := x } : TxEntry).cls = 1
      → ({ order := l.nextOrder, item := x } : TxEntry).isMark = true := by
    cases x with
    | mark j => exact fun _ => rfl
    | frame a p => cases p <;> simp [TxEntry.cls, Payload.cls] at proper ⊢
  rw [Lnk.offer_of_noSecondMark single]
  refine (Lnk.ordered_iff _).mpr ⟨?_, fun y full => ?_⟩
  · obtain same | ⟨q, sub, room, entered⟩ := Lnk.enter_queue_cases (l := { l with nextOrder := l.nextOrder + 1 })
      txInsert { order := l.nextOrder, item := x } queue.length (queue.sorted.imp TxEntry.before.cls_le)
    · rw [same, Lnk.enter_nextOrder]
      exact queue.mono (Nat.le_succ _)
    · rw [entered, Lnk.enter_nextOrder]
      have kept := queue.sublist sub
      exact (kept.mono (Nat.le_succ _)).txInsert room kept.below (Nat.lt_succ_self _) timing
        fun mark y hy => single mark y (sub.subset hy)
  · rw [Lnk.enter_shifter] at full
    obtain ⟨order, timed, oldest⟩ := shifter y full
    rw [Lnk.enter_nextOrder]
    refine ⟨order.trans (Nat.lt_succ_self _), timed, fun e he same => ?_⟩
    obtain stands | ⟨q, sub, room, entered⟩ := Lnk.enter_queue_cases (l := { l with nextOrder := l.nextOrder + 1 })
      txInsert { order := l.nextOrder, item := x } queue.length (queue.sorted.imp TxEntry.before.cls_le)
    · rw [stands] at he
      exact oldest e he same
    · rw [entered, mem_txInsert] at he
      obtain rfl | he := he
      · exact order
      · exact oldest e (sub.subset he) same

/-- Frames removed by their content leave the queue in order (R109). -/
theorem Lnk.ordered.remove (h : l.ordered) (p : Payload → Bool) : (l.remove p).ordered := by
  have kept := h.sublist (q := (l.remove p).queue) List.filter_sublist
  obtain ⟨queue, shifter⟩ := (Lnk.ordered_iff _).mp kept
  refine (Lnk.ordered_iff _).mpr ⟨queue, fun x full => ?_⟩
  obtain ⟨y, loaded, rfl⟩ := Option.map_eq_some_iff.mp full
  have same : (if p y.payload then { y with discard := true } else y).entry = y.entry := by split <;> rfl
  simpa only [same, Lnk.remove_nextOrder] using shifter y loaded

/-- An aborted frame that returns leaves the queue in order (R108). -/
theorem Lnk.ordered.giveBack (h : l.ordered) : l.giveBack.ordered := by
  obtain ⟨queue, shifter⟩ := l.ordered_iff.mp h
  have emptied : Lnk.ordered { l with shifter := none } := h.congr rfl rfl (.inr rfl)
  unfold Lnk.giveBack
  split
  · exact h
  next x loaded =>
    obtain ⟨order, timing, oldest⟩ := shifter x loaded
    simp only
    split
    · exact emptied.congr rfl rfl (.inl rfl)
    next noSecond =>
      split
      · exact emptied
      have single : x.entry.isMark = true → ∀ y ∈ l.queue, y.isMark = false :=
        fun mark => by simpa [mark] using noSecond
      refine (Lnk.ordered_iff _).mpr ⟨?_, fun y full => by simp at full⟩
      obtain same | ⟨q, sub, room, entered⟩ := Lnk.enter_queue_cases (l := { l with shifter := none })
        txReinsert x.entry queue.length (queue.sorted.imp TxEntry.before.cls_le)
      · rw [same, Lnk.enter_nextOrder]
        exact queue
      · rw [entered, Lnk.enter_nextOrder]
        exact (queue.sublist sub).txReinsert room (fun y hy => oldest y (sub.subset hy)) order timing
          fun mark y hy => single mark y (sub.subset hy)

/-- The first entry in the shifter was entered before every queued frame of its class. -/
theorem Lnk.ordered.send (h : l.ordered) {e : TxEntry} {rest : List TxEntry} (first : l.queue = e :: rest)
    (p : Payload) :
    Lnk.ordered { l with queue := rest, shifter := some { entry := e, payload := p, discard := false } } := by
  obtain ⟨queue, -⟩ := l.ordered_iff.mp h
  rw [first] at queue
  obtain ⟨behind, -⟩ := List.pairwise_cons.mp queue.sorted
  refine (Lnk.ordered_iff _).mpr ⟨queue.sublist (List.sublist_cons_self e rest), fun x full => ?_⟩
  obtain rfl := Option.some.inj full
  exact ⟨queue.below e List.mem_cons_self, queue.timing e List.mem_cons_self,
    fun y hy same => (behind y hy).order_lt_of_cls_eq same.symm⟩

end

theorem Lnk.ordered_of_empty {l : Lnk} (queue : l.queue = []) (shifter : l.shifter = none) : l.ordered := by
  refine l.ordered_iff.mpr ⟨?_, by simp [shifter]⟩
  rw [queue]
  exact ⟨by simp, by simp, .nil, by simp, by simp⟩

/-- Every elementary change keeps the queue in order. -/
theorem State.Change.keeps_ordered {s t : State} (start : s.lnk.ordered) (h : s.Change t) : t.lnk.ordered := by
  cases h with
  | offer proper => exact start.offer proper
  | remove p => exact start.remove p
  | giveBack => exact start.giveBack
  | discard suffix => exact start.sublist suffix.sublist
  | send p first empty => exact start.send first p
  | line queue nextOrder shifter _ _ => exact start.congr queue nextOrder shifter
  | countError | countCollision => exact start.congr rfl rfl (.inl rfl)
  | assertReset kind => exact Lnk.ordered_of_empty rfl rfl
  | startUp straps => exact (Lnk.ordered_of_empty rfl rfl).offer nofun
  | _ => exact start

/-- Settles O54: every step is a run of elementary changes (`step_keeps`), and those of LNK keep its order one by one. -/
theorem theQueueStaysInOrder : Obligations.TheQueueStaysInOrder := by
  unfold Obligations.TheQueueStaysInOrder
  intro s t start h
  exact step_keeps (p := fun u => u.lnk.ordered) (fun _ _ => State.Change.keeps_ordered) start h

end Sys2Proof.Machine
end

section
/-! PROOFS. The ranges that every step keeps (O55, O56), with the arithmetic of ramps and increments (O9, O19). -/

namespace Sys2Proof.Machine

/-! ### Ramps and increments -/

/-- A part k of r of a difference, truncated, lies between 0 and the difference. -/
theorem tdiv_mul_between {d : Int} {k r : Nat} (le : k ≤ r) :
    min 0 d ≤ Int.tdiv (d * k) r ∧ Int.tdiv (d * k) r ≤ max 0 d := by
  have part (e : Nat) : e * k / r ≤ e := Nat.div_le_of_le_mul (by rw [Nat.mul_comm r]; exact Nat.mul_le_mul_left e le)
  obtain ⟨e, rfl | rfl⟩ := d.eq_nat_or_neg
  · have : Int.tdiv ((e : Int) * k) r = (e * k / r : Nat) := by
      rw [← Int.natCast_mul, Int.ofNat_tdiv]
    have := part e
    generalize e * k / r = q at *
    omega
  · have : Int.tdiv (-(e : Int) * k) r = -((e * k / r : Nat) : Int) := by
      rw [Int.neg_mul, Int.neg_tdiv, ← Int.natCast_mul, Int.ofNat_tdiv]
    have := part e
    generalize e * k / r = q at *
    omega

/-- The value of a ramp, as an exact integer. -/
theorem rampValue_eq {start target k r : Nat} (le : k ≤ r) :
    (rampValue start target k r : Int) = start + Int.tdiv (((target : Int) - start) * k) r := by
  have := tdiv_mul_between (d := (target : Int) - start) le
  simp only [rampValue, truncDiv]
  omega

/-- Every value of a ramp lies between its start and its target (R20, R22). -/
theorem rampValue_between {start target k r : Nat} (le : k ≤ r) :
    min start target ≤ rampValue start target k r ∧ rampValue start target k r ≤ max start target := by
  have value := rampValue_eq (start := start) (target := target) le
  have := tdiv_mul_between (d := (target : Int) - start) le
  omega

theorem rampValue_le {start target k r top : Nat} (hs : start ≤ top) (ht : target ≤ top) (le : k ≤ r) :
    rampValue start target k r ≤ top := by
  have := rampValue_between (start := start) (target := target) le
  omega

theorem incrementFits_rampValue {start target k r : Nat} (hs : incrementFits start) (ht : incrementFits target)
    (le : k ≤ r) : incrementFits (rampValue start target k r) := by
  have := rampValue_between (start := start) (target := target) le
  unfold incrementFits at *
  omega

theorem incrementFits_incrementOf {f : Nat} (h : frequencyFits f) : incrementFits (incrementOf f) := by
  simp only [frequencyFits, incrementFits, incrementOf, roundDiv] at *
  omega

/-- With the correction it holds, F + C is positive and is the effective increment (R11). -/
theorem Ctb.fEff_bounds {c : Ctb} (f : incrementFits c.f) (correction : c.c.natAbs ≤ c.f >>> 10) :
    6704333 ≤ c.fEff ∧ c.fEff ≤ 11755519 ∧ (c.fEff : Int) = c.f + c.c := by
  simp only [incrementFits, Ctb.fEff, Nat.shiftRight_eq_div_pow] at *
  omega

/-- Settles O9: an increment is linear in its frequency, and the correction is at most a 1,024th of it. -/
theorem effectiveIncrementBounds : Obligations.EffectiveIncrementBounds :=
  ⟨fun _ => incrementFits_incrementOf, fun _ => Ctb.fEff_bounds⟩

/-! ### The values at the end of the start sequence -/

section
variable (s : State) (straps : Straps)

/-- The cause of the start that the end of the sequence takes (R159). -/
def State.causeOfStart : StartCause := s.stc.pendingCause.getD .powerOn

/-- The SETUP values after the start: the retained ones after RESET_PIN alone (R159). -/
def State.setupAtStart : Setup := if s.causeOfStart = .resetPin then s.stc.setup else Setup.default

theorem State.startUp_stc : (s.startUp straps).stc
    = { phase := .running, startCause := s.causeOfStart, pendingCause := none, straps := straps
        setup := s.setupAtStart, energized := false } := rfl

theorem State.startUp_ctb : (s.startUp straps).ctb
    = { tick := 0, divider := 0, theta := offsetOf straps.offsetSelect, delta := offsetOf straps.offsetSelect
        f := incrementOf s.setupAtStart.frequency, ramp := none, c := 0, ownCycles := 0, commonCycles := 0 } := rfl

theorem State.startUp_syn : (s.startUp straps).syn
    = { out := .dark, level := 0, ramp := none, safe := none, profile := none, pendingCopy := none
        limited := false, limitedSamples := 0, dac := 0 } := rfl

theorem State.startUp_pls : (s.startUp straps).pls
    = if s.causeOfStart = .resetPin then s.pls else Pls.empty := rfl

theorem State.startUp_image : (s.startUp straps).seq.image = none := rfl

theorem State.startUp_ftu : (s.startUp straps).ftu
    = { phi := 1024, limit := s.setupAtStart.limit, tripCycles := 0, stepPolicy := none, streak := 0
        foldedCycles := 0, tripCause := none, folded := false, tripDue := false } := rfl

/-- The records at the end of the start sequence (R117). -/
theorem State.startUp_peer (n : Station) :
    (s.startUp straps).ptb.peer n = if n = straps.number then PeerRecord.own else PeerRecord.absent := by
  have same : n.toNat = straps.number.toNat ↔ n = straps.number := BitVec.toNat_inj
  simp [State.startUp, startValues, Ptb.peer, same]

theorem Setup.default_frequency : Setup.default.frequency = 5000 := rfl

theorem State.setupAtStart_frequencyFits {s : State} (h : frequencyFits s.stc.setup.frequency) :
    frequencyFits s.setupAtStart.frequency := by
  unfold State.setupAtStart
  split
  · exact h
  · simp [frequencyFits, Setup.default_frequency]

end

/-! ### Records and profiles -/

/-- A write-back leaves the bounded parts of a record alone (R57). -/
theorem StepRecord.written_fits {r : StepRecord} (h : r.fits) (live : Bool) (e : EndReason) (p : Pass) :
    (r.written live e p).fits := h

theorem Pls.forall_slot_setSlot {p : Pls} {i : Slot} {r : StepRecord} {P : StepRecord → Prop} (new : P r)
    (others : ∀ j, P (p.slot j)) (j : Slot) : P ((p.setSlot i r).slot j) := by
  by_cases same : j = i
  · subst same
    simpa using new
  · simpa [Pls.slot_setSlot_ne _ _ same] using others j

theorem Pls.forall_profile_setProfile {p : Pls} {i : ProfileIndex} {l : List ProfileEntry}
    {P : List ProfileEntry → Prop} (new : P l) (others : ∀ j, P (p.profile j)) (j : ProfileIndex) :
    P ((p.setProfile i l).profile j) := by
  by_cases same : j = i
  · subst same
    simpa using new
  · simpa [Pls.profile_setProfile_ne _ _ same] using others j

@[simp] theorem Pls.empty_slot (i : Slot) : Pls.empty.slot i = StepRecord.empty := by
  simp [Pls.slot, Pls.empty]

@[simp] theorem Pls.empty_profile (i : ProfileIndex) : Pls.empty.profile i = [] := by
  simp [Pls.profile, Pls.empty]

theorem profileFits_nil : profileFits [] := by simp [profileFits]

/-- Every elementary change keeps the records and profiles within their ranges. -/
theorem State.Change.keeps_planFits {s t : State} (start : s.planFits) (h : s.Change t) : t.planFits := by
  obtain ⟨ring, image, profiles, copy⟩ := start
  cases h with
  | seq held =>
    refine ⟨ring, fun r holds => ?_, profiles, copy⟩
    obtain gone | kept | ⟨i, taken⟩ := held
    · cases gone.symm.trans holds
    · exact image r (kept.symm.trans holds)
    · obtain rfl := Option.some.inj (taken.symm.trans holds)
      exact ring i
  | written i live reason p =>
    exact ⟨Pls.forall_slot_setSlot (StepRecord.written_fits (ring i) ..) ring, image, profiles, copy⟩
  | stored i fits => exact ⟨Pls.forall_slot_setSlot fits ring, image, profiles, copy⟩
  | profile fits =>
    exact ⟨ring, image, Pls.forall_profile_setProfile (fits.elim id (copy _ _)) profiles, copy⟩
  | syn level ramp safe pendingCopy =>
    refine ⟨ring, image, profiles, fun i l held => ?_⟩
    obtain kept | gone | ⟨j, m, new, fits⟩ := pendingCopy
    · exact copy i l (kept.symm.trans held)
    · cases gone.symm.trans held
    · cases new.symm.trans held
      exact fits
  | levelStep frozen =>
    refine ⟨ring, image, profiles, ?_⟩
    simp only [State.setSyn, Syn.levelStep]
    split
    · split <;> exact copy
    · split
      · exact copy
      · split <;> exact copy
  | startLevel held =>
    refine ⟨ring, image, profiles, ?_⟩
    simp only [State.setSyn, Syn.startWith, Syn.startLevel, Syn.levelStep]
    split
    · split <;> exact copy
    · split
      · split <;> exact copy
      · split
        · exact copy
        · split <;> exact copy
  | assertReset kind => exact ⟨ring, image, profiles, nofun⟩
  | startUp straps =>
    simp only [State.planFits, State.startUp_pls, State.startUp_image, State.startUp_syn]
    refine ⟨fun i => ?_, by simp, fun i => ?_, by simp⟩
    · split
      · exact ring i
      · exact Pls.empty_slot i ▸ StepRecord.empty_fits
    · split
      · exact profiles i
      · exact Pls.empty_profile i ▸ profileFits_nil
  | _ => exact ⟨ring, image, profiles, copy⟩

/-! ### Levels -/

/-- The conditions of `State.levelsFit` on SYN alone. -/
def Syn.levelsFit (y : Syn) : Prop :=
  levelFits y.level ∧ (∀ r, y.ramp = some r → levelFits r.start ∧ levelFits r.target)
    ∧ ∀ g, y.safe = some g → levelFits g.start

/-- The next value of a level's ramp is a level, and its ends stand. -/
theorem Syn.levelsFit.levelStep {y : Syn} (h : y.levelsFit) (frozen : Bool) : (y.levelStep frozen).levelsFit := by
  obtain ⟨level, ramp, safe⟩ := h
  unfold Syn.levelStep
  split
  next g falling =>
    split
    · exact ⟨level, ramp, safe⟩
    · exact ⟨rampValue_le (safe g falling) (Nat.zero_le _) (by omega), ramp,
        fun _ same => Option.some.inj same ▸ safe g falling⟩
  next =>
    split
    · exact ⟨level, ramp, safe⟩
    next r ramping =>
      obtain ⟨start, target⟩ := ramp r ramping
      split
      · exact ⟨level, ramp, safe⟩
      next going =>
        simp only [Bool.or_eq_true, decide_eq_true_eq, not_or] at going
        exact ⟨rampValue_le start target (by omega),
          fun _ same => Option.some.inj same ▸ ⟨start, target⟩, safe⟩

theorem Syn.levelsFit.startLevel {y : Syn} (h : y.levelsFit) {target : Nat} (fits : levelFits target) (r : Nat) :
    (y.startLevel target r).levelsFit := by
  obtain ⟨level, ramp, safe⟩ := h
  unfold Syn.startLevel
  split
  · exact ⟨fits, nofun, safe⟩
  · exact ⟨rampValue_le level fits (by omega), fun _ same => Option.some.inj same ▸ ⟨level, fits⟩, safe⟩

theorem Syn.levelsFit.startWith {y : Syn} (h : y.levelsFit) {r : StepRecord} (fits : r.fits) :
    (y.startWith r).levelsFit := by
  obtain ⟨levels, -⟩ := fits
  simp only [Syn.startWith]
  split
  next l named => exact h.startLevel (levels l named) r.ramp.toNat
  next => exact h.levelStep false

/-- Every elementary change keeps the levels within their range. -/
theorem State.Change.keeps_levelsFit {s t : State} (plan : s.planFits) (start : s.levelsFit) (h : s.Change t) :
    t.levelsFit := by
  have zero : Syn.levelsFit { t.syn with level := 0, ramp := none, safe := none } :=
    ⟨Nat.zero_le _, nofun, nofun⟩
  cases h with
  | syn level ramp safe _ =>
    obtain ⟨inForce, ramps, falls⟩ := start
    refine ⟨?_, fun r held => ?_, fun g held => ?_⟩
    · obtain kept | zero := level
      · exact (congrArg levelFits kept).mpr inForce
      · exact (congrArg levelFits zero).mpr (Nat.zero_le _)
    · obtain kept | gone := ramp
      · exact ramps r (kept.symm.trans held)
      · cases gone.symm.trans held
    · obtain kept | gone | ⟨g', new, from'⟩ := safe
      · exact falls g (kept.symm.trans held)
      · cases gone.symm.trans held
      · obtain rfl := Option.some.inj (new.symm.trans held)
        exact (congrArg levelFits from').mpr inForce
  | levelStep frozen => exact Syn.levelsFit.levelStep start frozen
  | startLevel held => exact Syn.levelsFit.startWith start (plan.2.1 _ held)
  | assertReset kind => exact zero
  | startUp straps =>
    simp [State.levelsFit, levelFits, State.startUp_syn]
  | _ => exact start

/-! ### Increments -/

/-- The conditions of `State.incrementsFit` on CTB alone. -/
def Ctb.incrementsFit (c : Ctb) : Prop :=
  incrementFits c.f ∧ (∀ r, c.ramp = some r → incrementFits r.start ∧ incrementFits r.target)
    ∧ c.c.natAbs ≤ c.f >>> 10

theorem State.incrementsFit_iff (s : State) :
    s.incrementsFit ↔ s.ctb.incrementsFit ∧ frequencyFits s.stc.setup.frequency :=
  ⟨fun ⟨f, ramp, setup, c⟩ => ⟨⟨f, ramp, c⟩, setup⟩, fun ⟨⟨f, ramp, c⟩, setup⟩ => ⟨f, ramp, setup, c⟩⟩

/-- A change of F clamps C against the new F (R10). -/
theorem Ctb.setF_c_le (c : Ctb) (f : Nat) : (c.setF f).c.natAbs ≤ f >>> 10 := natAbs_clampAbs_le _ _

theorem Ctb.incrementsFit.setF {c : Ctb} (h : c.incrementsFit) {f : Nat} (fits : incrementFits f) :
    (c.setF f).incrementsFit := by
  obtain ⟨-, ramps, -⟩ := h
  exact ⟨fits, ramps, c.setF_c_le f⟩

theorem State.applySetup_ctb (s : State) (v : Setup) :
    (s.applySetup v).ctb = s.ctb.setF (incrementOf v.frequency) := rfl

theorem Ctb.incrementsFit.rampStep {c : Ctb} (h : c.incrementsFit) (frozen : Bool) :
    (c.rampStep frozen).incrementsFit := by
  unfold Ctb.rampStep
  split
  · exact h
  next r ramping =>
    obtain ⟨f, ramp, correction⟩ := h
    obtain ⟨start, target⟩ := ramp r ramping
    split
    · exact ⟨f, ramp, correction⟩
    next going =>
      simp only [Bool.or_eq_true, decide_eq_true_eq, not_or] at going
      exact ⟨incrementFits_rampValue start target (by omega),
        fun _ same => Option.some.inj same ▸ ⟨start, target⟩, c.setF_c_le _⟩

theorem Ctb.incrementsFit.startWith {c : Ctb} (h : c.incrementsFit) {r : StepRecord} (fits : r.fits) :
    (c.startWith r c.f).incrementsFit := by
  obtain ⟨-, frequencies, -⟩ := fits
  unfold Ctb.startWith
  split
  next f named =>
    have target := incrementFits_incrementOf (frequencies f named)
    simp only [Ctb.startFrequency]
    split
    · exact ⟨target, nofun, c.setF_c_le _⟩
    · exact ⟨incrementFits_rampValue h.1 target (by omega),
        fun _ same => Option.some.inj same ▸ ⟨h.1, target⟩, c.setF_c_le _⟩
  next => exact h.rampStep false

/-- Every elementary change keeps the increments and the correction within their ranges. -/
theorem State.Change.keeps_incrementsFit {s t : State} (plan : s.planFits) (start : s.incrementsFit)
    (h : s.Change t) : t.incrementsFit := by
  obtain ⟨increments, frequency⟩ := s.incrementsFit_iff.mp start
  rw [State.incrementsFit_iff]
  cases h with
  | ctb f ramp correction =>
    obtain ⟨inForce, ramps, bound⟩ := increments
    refine ⟨⟨(congrArg incrementFits f).mpr inForce, fun r held => ?_, ?_⟩, frequency⟩
    · obtain kept | gone := ramp
      · exact ramps r (kept.symm.trans held)
      · cases gone.symm.trans held
    · obtain kept | within := correction
      · simpa [kept, f] using bound
      · exact within
  | rampStep frozen => exact ⟨increments.rampStep frozen, frequency⟩
  | startFrequency held => exact ⟨increments.startWith (plan.2.1 _ held), frequency⟩
  | setup fits =>
    rw [State.applySetup_ctb]
    exact ⟨increments.setF (incrementFits_incrementOf fits), fits⟩
  | assertReset kind =>
    obtain ⟨inForce, -, bound⟩ := increments
    exact ⟨⟨inForce, nofun, bound⟩, frequency⟩
  | startUp straps =>
    have fits := State.setupAtStart_frequencyFits frequency
    rw [State.startUp_ctb, State.startUp_stc]
    exact ⟨⟨incrementFits_incrementOf fits, by simp, by simp⟩, fits⟩
  | _ => exact ⟨increments, frequency⟩

/-- Settles O55: every step is a run of elementary changes (`step_keeps`), and each keeps the three groups of ranges,
levels and increments by those of the record SEQ holds. -/
theorem levelsAndIncrementsStayInRange : Obligations.LevelsAndIncrementsStayInRange := by
  unfold Obligations.LevelsAndIncrementsStayInRange
  intro s t start h
  refine step_keeps (p := State.outputFits) (fun u v fits change => ?_) start h
  obtain ⟨plan, levels, increments⟩ := fits
  exact ⟨change.keeps_planFits plan, change.keeps_levelsFit plan levels, change.keeps_incrementsFit plan increments⟩

/-! ### Fold factor, lock streak, counters and peer records -/

theorem State.Change.keeps_foldFits {s t : State} (start : s.foldFits) (h : s.Change t) : t.foldFits := by
  cases h with
  | ftu phi => exact phi start
  | startUp straps => simp [State.foldFits, State.startUp_ftu]
  | _ => exact start

theorem State.Change.keeps_lockFits {s t : State} (start : s.lockFits) (h : s.Change t) : t.lockFits := by
  cases h with
  | lck streak =>
    obtain ⟨streak, state⟩ | fits := streak
    · simpa [State.lockFits, streak, state] using start
    · exact fits
  | startUp straps => exact ⟨Nat.zero_le _, fun _ => rfl⟩
  | _ => exact start

theorem State.Change.keeps_countersFit {s t : State} (start : s.lnk.countersFit) (h : s.Change t) :
    t.lnk.countersFit := by
  obtain ⟨checks, collisions⟩ := start
  cases h with
  | offer proper => simpa [Lnk.countersFit, State.offer] using ⟨checks, collisions⟩
  | giveBack => simpa [Lnk.countersFit] using ⟨checks, collisions⟩
  | line _ _ _ sameChecks sameCollisions =>
    exact ⟨by simpa [sameChecks] using checks, by simpa [sameCollisions] using collisions⟩
  | countError drop => exact ⟨Nat.min_le_left .., collisions⟩
  | countCollision => exact ⟨checks, Nat.min_le_left ..⟩
  | startUp straps => simp [Lnk.countersFit, State.startUp, State.offerStatus, State.offerAll, State.offer, startValues]
  | _ => exact ⟨checks, collisions⟩

theorem State.Change.keeps_ownRecordStands {s t : State} (start : s.ownRecordStands) (h : s.Change t) :
    t.ownRecordStands := by
  cases h with
  | ptb own strangers =>
    obtain ⟨state, error, fresh, age⟩ := own
    obtain ⟨state', error', fresh', age'⟩ := start
    exact ⟨state.trans state', error.trans error', fresh.trans fresh', age.trans age'⟩
  | startUp straps =>
    have own : (s.startUp straps).own = straps.number := rfl
    simp [State.ownRecordStands, State.startUp_peer, own, PeerRecord.own, PeerRecord.absent]
  | _ => exact start

theorem State.Change.keeps_strangersStand {s t : State} (start : s.strangersStand) (h : s.Change t) :
    t.strangersStand := by
  cases h with
  | ptb own strangers =>
    intro n outside
    obtain ⟨lost, fresh⟩ := strangers n outside
    obtain ⟨notLost, stale⟩ := start n outside
    exact ⟨fun now => notLost (lost now), fun now => stale (fresh now)⟩
  | startUp straps =>
    intro n _
    have own : (s.startUp straps).own = straps.number := rfl
    by_cases same : n = straps.number <;>
      simp [State.startUp_peer, own, same, PeerRecord.own, PeerRecord.absent]
  | _ => exact start

/-- Settles O56: every step is a run of elementary changes (`step_keeps`), and each keeps the five conditions. -/
theorem protectionAndPeerRecordsStayInRange : Obligations.ProtectionAndPeerRecordsStayInRange := by
  unfold Obligations.ProtectionAndPeerRecordsStayInRange
  refine ⟨fun s t fold lock counters h => ⟨?_, ?_, ?_⟩, fun s t own strangers h => ⟨?_, ?_⟩⟩
  · exact step_keeps (fun _ _ => State.Change.keeps_foldFits) fold h
  · exact step_keeps (fun _ _ => State.Change.keeps_lockFits) lock h
  · exact step_keeps (p := fun u => u.lnk.countersFit) (fun _ _ => State.Change.keeps_countersFit) counters h
  · exact step_keeps (fun _ _ => State.Change.keeps_ownRecordStands) own h
  · exact step_keeps (fun _ _ => State.Change.keeps_strangersStand) strangers h

end Sys2Proof.Machine
end

section
/-! PROOFS. What is due comes first (O3): after `State.settle` nothing is due. The ends of a step come first, then the
losses and the timeout with the lock evaluation that waits for them, and then the ramps; none makes an earlier one due
again. -/

namespace Sys2Proof.Machine

/-! ### The ends of a step -/

section
variable (s : State)

/-- No step ends outside ACTIVE. -/
theorem State.endingStep_of_not_active {s : State} (h : s.seq.state ≠ .active) : s.endingStep = none := by
  unfold State.endingStep
  split <;> simp [h]

theorem State.endingStep_of_no_image {s : State} (h : s.seq.image = none) : s.endingStep = none := by
  simp [State.endingStep, h]

theorem State.endingStep_congr {s t : State} (h : t.seq = s.seq) : t.endingStep = s.endingStep := by
  simp [State.endingStep, h]

/-- When a step ends by its duration (R78). -/
theorem State.endingStep_eq_some_iff {s : State} {r : StepRecord} :
    s.endingStep = some r ↔ s.seq.image = some r ∧ s.seq.state = .active ∧ r.count ≤ s.seq.progress := by
  unfold State.endingStep
  cases s.seq.image with
  | none => simp
  | some q => grind

/-- SEQ is in no ACTIVE step that could end. -/
def State.endless (s : State) : Prop := s.seq.state ≠ .active ∨ s.seq.image = none

theorem State.endless.endingStep {s : State} (h : s.endless) : s.endingStep = none :=
  h.elim State.endingStep_of_not_active State.endingStep_of_no_image

@[simp] theorem State.rest_seq_state (q : SeqState) : (s.rest q).seq.state = q := rfl
@[simp] theorem State.rest_seq_image (q : SeqState) : (s.rest q).seq.image = none := rfl
@[simp] theorem State.rest_seq_markerLimit (q : SeqState) : (s.rest q).seq.markerLimit = false := rfl

/-- A fault is recorded once: a station FAULTED already stays as it is (R92). -/
theorem State.fault_of_faulted {s : State} (h : s.seq.state = .faulted) (c : FaultCause) : s.fault c = s := by
  simp [State.fault, h]

/-- A fault brings SEQ to rest in FAULTED (R92). -/
theorem State.fault_seq {s : State} (h : s.seq.state ≠ .faulted) (c : FaultCause) :
    (s.fault c).seq = { ((s.dropStep .aborted .aborted).rest .faulted).seq with faultCause := c } := by
  simp [State.fault, h]

@[simp] theorem State.fault_state (c : FaultCause) : (s.fault c).seq.state = .faulted := by
  by_cases h : s.seq.state = .faulted
  · rw [State.fault_of_faulted h, h]
  · rw [State.fault_seq h, State.rest_seq_state]

theorem State.fault_markerLimit {s : State} (h : s.seq.markerLimit = false) (c : FaultCause) :
    (s.fault c).seq.markerLimit = false := by
  by_cases k : s.seq.state = .faulted
  · rwa [State.fault_of_faulted k]
  · rw [State.fault_seq k, State.rest_seq_markerLimit]

/-- SEQ is in TRIPPED or FAULTED, in which no trip is made (R91). -/
theorem State.trip_of_stopped {s : State} (h : s.seq.state = .tripped ∨ s.seq.state = .faulted) (c : TripCause) :
    s.trip c = s := by
  simp [State.trip, h]

/-- A trip brings SEQ to rest in TRIPPED (R91). -/
theorem State.trip_seq {s : State} (h : s.seq.state ≠ .tripped) (k : s.seq.state ≠ .faulted) (c : TripCause) :
    (s.trip c).seq = ((((s.setFtu { s.ftu with tripCause := some c }).offerAll
      (.trip c s.seq.pointer)).enterFalling.dropStep .tripped .ownTrip).rest .tripped).seq := by
  simp [State.trip, h, k]

theorem State.trip_stopped (c : TripCause) :
    (s.trip c).seq.state = .tripped ∨ (s.trip c).seq.state = .faulted := by
  by_cases h : s.seq.state = .tripped ∨ s.seq.state = .faulted
  · rwa [State.trip_of_stopped h]
  · obtain ⟨tripped, faulted⟩ := not_or.mp h
    exact .inl (by rw [State.trip_seq tripped faulted, State.rest_seq_state])

theorem State.trip_markerLimit {s : State} (h : s.seq.markerLimit = false) (c : TripCause) :
    (s.trip c).seq.markerLimit = false := by
  by_cases k : s.seq.state = .tripped ∨ s.seq.state = .faulted
  · rwa [State.trip_of_stopped k]
  · obtain ⟨tripped, faulted⟩ := not_or.mp k
    rw [State.trip_seq tripped faulted, State.rest_seq_markerLimit]

/-- A trip writes its cause, where it is made (R153). -/
theorem State.trip_ftu (c : TripCause) :
    (s.trip c).ftu = s.ftu ∨ (s.trip c).ftu = { s.ftu with tripCause := some c } := by
  unfold State.trip
  split
  · exact .inl rfl
  · exact .inr (by simp)

@[simp] theorem State.trip_tripDue (c : TripCause) : (s.trip c).ftu.tripDue = s.ftu.tripDue := by
  obtain h | h := s.trip_ftu c <;> rw [h]

theorem State.endless_of_stopped {s : State} (h : s.seq.state = .tripped ∨ s.seq.state = .faulted) : s.endless :=
  .inl (by rintro active; simp [active] at h)

theorem State.endless_fault (c : FaultCause) : (s.fault c).endless := State.endless_of_stopped (.inr (s.fault_state c))

theorem State.endless_trip (c : TripCause) : (s.trip c).endless := State.endless_of_stopped (s.trip_stopped c)

theorem State.state_of_arm (r : StepRecord) : (s.arm r).seq.state = .armed ∨ (s.arm r).seq.state = .gathering := by
  simp only [State.arm]
  split
  · split
    · exact .inr (by simp [State.enterGathering])
    · exact .inl rfl
  · exact .inl rfl

/-- A taking ends with no ACTIVE step in hand. -/
theorem State.endless_takeStep : s.takeStep.endless := by
  simp only [State.takeStep]
  split
  · exact .inl (by simp)
  next r _ =>
    refine .inl fun active => ?_
    obtain h | h := State.state_of_arm (s.setSeq _) r <;> exact SeqState.noConfusion (h.symm.trans active)
  · exact State.endless_fault _ _
  · exact .inr rfl

theorem State.endless_endStep (r : StepRecord) : (s.endStep r).endless := by
  simp only [State.endStep]
  split
  · exact .inl (by simp)
  · simp only [State.moveOn]
    split
    · exact .inl (by simp)
    · exact State.endless_takeStep _

theorem State.carryStepEnd_endingStep : s.carryStepEnd.endingStep = none := by
  cases h : s.endingStep with
  | none => simp [State.carryStepEnd, h]
  | some r => simpa [State.carryStepEnd, h] using (s.endless_endStep r).endingStep

theorem State.carryMarkerLimit_endingStep {s : State} (h : s.endingStep = none) :
    s.carryMarkerLimit.endingStep = none := by
  unfold State.carryMarkerLimit
  split
  · exact (State.endless_fault _ _).endingStep
  · exact h

@[simp] theorem State.carryMarkerLimit_markerLimit : s.carryMarkerLimit.seq.markerLimit = false := by
  unfold State.carryMarkerLimit
  split
  · exact State.fault_markerLimit rfl _
  next h => simpa using h

theorem State.carryOwnTrip_endingStep {s : State} (h : s.endingStep = none) : s.carryOwnTrip.endingStep = none := by
  unfold State.carryOwnTrip
  split
  · exact (State.endless_trip _ _).endingStep
  · exact h

theorem State.carryOwnTrip_markerLimit {s : State} (h : s.seq.markerLimit = false) :
    s.carryOwnTrip.seq.markerLimit = false := by
  unfold State.carryOwnTrip
  split
  · exact State.trip_markerLimit (s := s.carryMarkerLimit.setFtu _) (by simp) _
  · exact h

@[simp] theorem State.carryOwnTrip_tripDue : s.carryOwnTrip.ftu.tripDue = false := by
  unfold State.carryOwnTrip
  split
  · simp
  next h => simpa using h

/-- No step's end, no marker limit and no own trip is due. -/
def State.endsSettled (s : State) : Prop :=
  s.endingStep = none ∧ s.seq.markerLimit = false ∧ s.ftu.tripDue = false

theorem State.endsSettled_settleEnds : s.settleEnds.endsSettled := by
  have inTurn (t : State) : t.carryStepEnd.carryMarkerLimit.carryOwnTrip.endsSettled :=
    ⟨State.carryOwnTrip_endingStep (State.carryMarkerLimit_endingStep t.carryStepEnd_endingStep),
      State.carryOwnTrip_markerLimit (State.carryMarkerLimit_markerLimit _), State.carryOwnTrip_tripDue _⟩
  unfold State.settleEnds State.eitherOrder
  split
  · split
    · exact inTurn _
    · exact ⟨State.carryMarkerLimit_endingStep (State.carryStepEnd_endingStep _),
        State.carryMarkerLimit_markerLimit _, by simp⟩
  · exact inTurn s

end

/-! ### Losses, the timeout and the lock evaluation -/

section
variable (s : State)

/-- A record in trouble keeps SEQ from leaving FROZEN (R89). -/
theorem State.thaw_of_troubled {s : State} (h : s.troubled = true) : s.thaw = s := by
  simp [State.thaw, h]

theorem mem_stations (n : Station) : n ∈ stations := by
  revert n
  decide

/-- Some record other than the station's own shows a trip or a loss (R89). -/
theorem State.troubled_iff {s : State} :
    s.troubled = true ↔ ∃ n, n ≠ s.own ∧ ((s.ptb.peer n).tripped = true ∨ (s.ptb.peer n).state = .lost) := by
  simp [State.troubled, PeerRecord.troubled, mem_stations]

theorem State.lossDue_iff {s : State} {n : Station} :
    s.lossDue n = true ↔ n.toNat < s.count ∧ n ≠ s.own ∧ (s.ptb.peer n).state = .present ∧ 8 ≤ (s.ptb.peer n).age := by
  simp [State.lossDue, State.expectedPeer, and_assoc]

theorem State.anyLossDue_iff {s : State} : s.anyLossDue = true ↔ ∃ n, s.lossDue n = true := by
  simp [State.anyLossDue, mem_stations]

theorem State.anyLossDue_eq_false_iff {s : State} : s.anyLossDue = false ↔ ∀ n, s.lossDue n = false := by
  simp [State.anyLossDue, mem_stations]

/-- PEER_LOST of a station whose record is due is the peer's trouble of a loss, with no thaw before it. -/
theorem State.carryLoss_of_due {s : State} {n : Station} (h : s.lossDue n = true) :
    s.carryLoss n = (s.setPtb (s.ptb.setPeer n { s.ptb.peer n with state := .lost })).peerTrouble n .peerLost
      .peerLost := by
  obtain ⟨-, other, present, -⟩ := State.lossDue_iff.mp h
  have troubled : (s.setPtb (s.ptb.setPeer n { s.ptb.peer n with state := .lost })).troubled = true :=
    State.troubled_iff.mpr ⟨n, other, .inr (by simp)⟩
  simp [State.carryLoss, h, State.updatePeer, present, State.thaw_of_troubled troubled, other]

theorem State.carryLoss_of_not_due {s : State} {n : Station} (h : s.lossDue n = false) : s.carryLoss n = s := by
  simp [State.carryLoss, h]

@[simp] theorem State.updatePeer_ptb (n : Station) (r : PeerRecord) : (s.updatePeer n r).ptb = s.ptb.setPeer n r := by
  simp only [State.updatePeer]
  split
  · rfl
  · split
    · simp
    · split
      · simp
      · split <;> simp

theorem State.carryLoss_ptb {s : State} {n : Station} (h : s.lossDue n = true) :
    (s.carryLoss n).ptb = s.ptb.setPeer n { s.ptb.peer n with state := .lost } := by
  simp [State.carryLoss, h]

theorem State.lossDue_congr {s t : State} (stc : t.stc = s.stc) {n : Station}
    (state : (t.ptb.peer n).state = (s.ptb.peer n).state) (age : (t.ptb.peer n).age = (s.ptb.peer n).age) :
    t.lossDue n = s.lossDue n := by
  unfold State.lossDue State.expectedPeer State.count State.own
  rw [stc, state, age]

theorem State.anyLossDue_congr {s t : State} (h : ∀ n, t.lossDue n = s.lossDue n) : t.anyLossDue = s.anyLossDue := by
  unfold State.anyLossDue
  rw [funext h]

/-- PEER_LOST of one station leaves the record of every other as it is. -/
theorem State.carryLoss_peer_ne {n m : Station} (h : m ≠ n) : (s.carryLoss n).ptb.peer m = s.ptb.peer m := by
  unfold State.carryLoss
  split
  · rw [State.updatePeer_ptb, Ptb.peer_setPeer_ne _ _ h]
  · rfl

@[simp] theorem State.carryLoss_lossDue_same (n : Station) : (s.carryLoss n).lossDue n = false := by
  cases h : s.lossDue n with
  | true => simp [State.lossDue, State.carryLoss_ptb h]
  | false => rw [State.carryLoss_of_not_due h, h]

/-- The records after the losses that are due (R122). -/
theorem State.carryLosses_peer (m : Station) :
    s.carryLosses.ptb.peer m = if s.lossDue m then { s.ptb.peer m with state := .lost } else s.ptb.peer m := by
  have general (l : List Station) (t : State) : (l.foldl State.carryLoss t).ptb.peer m
      = if m ∈ l ∧ t.lossDue m = true then { t.ptb.peer m with state := .lost } else t.ptb.peer m := by
    induction l generalizing t with
    | nil => simp
    | cons n l ih =>
      rw [List.foldl_cons, ih]
      by_cases same : m = n
      · subst same
        cases due : t.lossDue m with
        | true => simp [State.carryLoss_ptb due]
        | false => simp [State.carryLoss_of_not_due due, due]
      · have peer := t.carryLoss_peer_ne same
        simp [same, peer, State.lossDue_congr (t.carryLoss_stc n) (congrArg _ peer) (congrArg _ peer)]
  simpa [State.carryLosses, mem_stations] using general stations s

@[simp] theorem State.carryLosses_anyLossDue : s.carryLosses.anyLossDue = false := by
  refine State.anyLossDue_eq_false_iff.mpr fun n => ?_
  cases due : s.lossDue n with
  | true =>
    have lost : (s.carryLosses.ptb.peer n).state = .lost := by rw [State.carryLosses_peer, if_pos due]
    simp [State.lossDue, lost]
  | false =>
    have stands : s.carryLosses.ptb.peer n = s.ptb.peer n := by simp [State.carryLosses_peer, due]
    rw [State.lossDue_congr s.carryLosses_stc (congrArg _ stands) (congrArg _ stands), due]

end

/-! ### What a peer's trouble leaves settled -/

/-- What a peer's trouble may do to what is due: no step's end, marker limit, own trip or timeout comes of it. -/
structure State.MakesNothingDue (s t : State) : Prop where
  ends : s.endsSettled → t.endsSettled
  timeout : s.timeoutDue = false → t.timeoutDue = false

namespace State.MakesNothingDue

variable {s t u : State}

theorem refl (s : State) : s.MakesNothingDue s := ⟨id, id⟩

theorem trans (h : s.MakesNothingDue t) (k : t.MakesNothingDue u) : s.MakesNothingDue u :=
  ⟨k.ends ∘ h.ends, k.timeout ∘ h.timeout⟩

theorem of_eq (seq : t.seq = s.seq) (ftu : t.ftu = s.ftu) (jnt : t.jnt = s.jnt) (ctb : t.ctb = s.ctb) :
    s.MakesNothingDue t where
  ends h := by simpa [State.endsSettled, State.endingStep, seq, ftu] using h
  timeout h := by simpa [State.timeoutDue, jnt, ctb] using h

theorem withdraw (s : State) (r : WithdrawReason) : s.MakesNothingDue (s.withdraw r) where
  ends h := by simpa [State.endsSettled, State.endingStep] using h
  timeout _ := by simp [State.timeoutDue, State.withdraw]

theorem freeze (s : State) : s.MakesNothingDue s.freeze := by
  refine ⟨fun ⟨ends, limit, due⟩ => ?_, fun h => by simpa [State.timeoutDue] using h⟩
  unfold State.freeze
  split
  · exact ⟨State.endingStep_of_not_active (by simp), limit, due⟩
  · exact ⟨ends, limit, due⟩

theorem timeoutDue_of_not_opened {s : State} (h : s.jnt.gate ≠ .opened) : s.timeoutDue = false := by
  simp [State.timeoutDue, h]

theorem leaveGathering_gate (s : State) (r : WithdrawReason) : (s.leaveGathering r).jnt.gate = .idle := by
  unfold State.leaveGathering
  split
  · assumption
  · rfl

/-- Letting go of a step opens no gate. -/
theorem dropStep_jnt (s : State) (e : EndReason) (w : WithdrawReason) :
    (s.dropStep e w).jnt = s.jnt ∨ (s.dropStep e w).jnt.gate = .idle := by
  unfold State.dropStep
  split
  · exact .inl (by simp)
  · exact .inl (by simp)
  · exact .inl rfl
  · exact .inr (leaveGathering_gate s w)
  · exact .inl rfl

theorem enterFalling_commonCycles (s : State) : s.enterFalling.ctb.commonCycles = s.ctb.commonCycles := by
  unfold State.enterFalling
  split <;> rfl

theorem trip (s : State) (c : TripCause) : s.MakesNothingDue (s.trip c) where
  ends h := by
    obtain ⟨ends, limit, due⟩ := h
    exact ⟨(s.endless_trip c).endingStep, State.trip_markerLimit limit c, by simpa using due⟩
  timeout h := by
    unfold State.trip
    split
    · exact h
    · obtain same | idle := dropStep_jnt ((s.setFtu { s.ftu with tripCause := some c }).offerAll
        (.trip c s.seq.pointer)).enterFalling .tripped .ownTrip
      · simpa [State.timeoutDue, same, enterFalling_commonCycles] using h
      · exact timeoutDue_of_not_opened (by simp [idle])

theorem applyPolicy (s : State) (c : TripCause) : s.MakesNothingDue (s.applyPolicy c) := by
  unfold State.applyPolicy
  split
  · exact refl s
  · split
    · exact trip s c
    · exact freeze s
    · exact refl s

theorem maskedTrouble (s : State) (n : Station) (r : WithdrawReason) : s.MakesNothingDue (s.maskedTrouble n r) := by
  unfold State.maskedTrouble
  split
  · exact withdraw s r
  · exact refl s

theorem countOrder (s : State) : s.MakesNothingDue s.countOrder := of_eq rfl rfl rfl rfl

theorem setPtb (s : State) (p : Ptb) : s.MakesNothingDue (s.setPtb p) := of_eq rfl rfl rfl rfl

theorem eitherOrder (s : State) {f g : State → State} (hf : ∀ t : State, t.MakesNothingDue (f t))
    (hg : ∀ t : State, t.MakesNothingDue (g t)) : s.MakesNothingDue (s.eitherOrder f g) := by
  unfold State.eitherOrder
  split
  · exact ((countOrder s).trans (hf _)).trans (hg _)
  · exact ((countOrder s).trans (hg _)).trans (hf _)

theorem peerTrouble (s : State) (n : Station) (c : TripCause) (r : WithdrawReason) :
    s.MakesNothingDue (s.peerTrouble n c r) := by
  unfold State.peerTrouble
  split
  · exact eitherOrder s (fun t => maskedTrouble t n r) fun t => applyPolicy t c
  · exact (maskedTrouble s n r).trans (applyPolicy _ c)

theorem carryLoss (s : State) (n : Station) : s.MakesNothingDue (s.carryLoss n) := by
  cases due : s.lossDue n with
  | true =>
    rw [State.carryLoss_of_due due]
    exact (setPtb s _).trans (peerTrouble _ n _ _)
  | false =>
    rw [State.carryLoss_of_not_due due]
    exact refl s

theorem carryLosses (s : State) : s.MakesNothingDue s.carryLosses :=
  List.foldlRecOn stations _ (motive := s.MakesNothingDue) (refl s) fun t h n _ => h.trans (carryLoss t n)

theorem carryTimeout (s : State) : s.MakesNothingDue s.carryTimeout := by
  unfold State.carryTimeout
  split
  · exact withdraw s .timeout
  · exact refl s

theorem carryEvaluation (s : State) : s.MakesNothingDue s.carryEvaluation where
  ends h := by simpa [State.endsSettled, State.endingStep] using h
  timeout h := by
    rw [State.timeoutDue, State.carryEvaluation_ctb]
    simpa [State.timeoutDue] using h

end State.MakesNothingDue

section
variable (s : State)

@[simp] theorem State.carryTimeout_timeoutDue : s.carryTimeout.timeoutDue = false := by
  unfold State.carryTimeout
  split
  · exact State.MakesNothingDue.timeoutDue_of_not_opened (by simp [State.withdraw])
  next h => simpa using h

theorem State.carryTimeout_anyLossDue : s.carryTimeout.anyLossDue = s.anyLossDue :=
  State.anyLossDue_congr fun _ => State.lossDue_congr (by simp) (by simp) (by simp)

/-- Ageing to a loss turns on presence and age, which an evaluation of the lock leaves alone (R14, R122). -/
theorem State.evaluateLock_lossDue (fBase : Nat) (n : Station) : (s.evaluateLock fBase).lossDue n = s.lossDue n := by
  have peer : ((s.evaluateLock fBase).ptb.peer n).state = (s.ptb.peer n).state
      ∧ ((s.evaluateLock fBase).ptb.peer n).age = (s.ptb.peer n).age := by
    simp only [State.evaluateLock]
    split
    · exact ⟨rfl, rfl⟩
    · split
      · by_cases own : n = s.own <;> simp [Ptb.peer_unfresh, own]
      · exact ⟨rfl, rfl⟩
  exact State.lossDue_congr (by simp) peer.1 peer.2

theorem State.evaluateLock_anyLossDue (fBase : Nat) : (s.evaluateLock fBase).anyLossDue = s.anyLossDue :=
  State.anyLossDue_congr (s.evaluateLock_lossDue fBase)

theorem State.carryEvaluation_anyLossDue : s.carryEvaluation.anyLossDue = s.anyLossDue := by
  unfold State.carryEvaluation
  split
  · split
    · rfl
    · exact State.evaluateLock_anyLossDue _ _
  · rfl

/-- The evaluation of the lock leaves what waits for it alone. -/
@[simp] theorem State.evaluateLock_waiting (fBase : Nat) : (s.evaluateLock fBase).lck.waiting = s.lck.waiting := by
  simp only [State.evaluateLock]
  split
  · rfl
  · split <;> rfl

/-- With no loss due the evaluation that waited is made (R123). -/
theorem State.carryEvaluation_waiting {s : State} (h : s.anyLossDue = false) : s.carryEvaluation.lck.waiting = none := by
  unfold State.carryEvaluation
  split
  · simp [h]
  · assumption

/-- No loss, timeout or lock evaluation is due, nor an end of a step. -/
def State.wrapsSettled (s : State) : Prop :=
  s.endsSettled ∧ s.anyLossDue = false ∧ s.lck.waiting = none ∧ s.timeoutDue = false

theorem State.wrapsSettled_settleWraps {s : State} (h : s.endsSettled) : s.settleWraps.wrapsSettled := by
  have settled (t : State) (ends : t.endsSettled) (loss : t.anyLossDue = false) (timeout : t.timeoutDue = false) :
      t.carryEvaluation.wrapsSettled :=
    ⟨(State.MakesNothingDue.carryEvaluation t).ends ends, by rwa [State.carryEvaluation_anyLossDue],
      State.carryEvaluation_waiting loss, (State.MakesNothingDue.carryEvaluation t).timeout timeout⟩
  have lossesFirst (t : State) (ends : t.endsSettled) : t.carryLosses.carryTimeout.carryEvaluation.wrapsSettled :=
    settled _ ((State.MakesNothingDue.carryTimeout _).ends ((State.MakesNothingDue.carryLosses t).ends ends))
      (by rw [State.carryTimeout_anyLossDue, State.carryLosses_anyLossDue]) (State.carryTimeout_timeoutDue _)
  have drawn := (State.MakesNothingDue.countOrder s).ends h
  unfold State.settleWraps State.eitherOrder
  split
  · split
    · exact lossesFirst _ drawn
    · exact settled _ ((State.MakesNothingDue.carryLosses _).ends ((State.MakesNothingDue.carryTimeout _).ends drawn))
        (State.carryLosses_anyLossDue _)
        ((State.MakesNothingDue.carryLosses _).timeout (State.carryTimeout_timeoutDue _))
  · exact lossesFirst s h

/-! ### The ramps -/

theorem State.wrapsSettled_congr {s t : State} (h : s.wrapsSettled) (seq : t.seq = s.seq)
    (tripDue : t.ftu.tripDue = s.ftu.tripDue) (stc : t.stc = s.stc) (ptb : t.ptb = s.ptb) (lck : t.lck = s.lck)
    (jnt : t.jnt = s.jnt) (cycles : t.ctb.commonCycles = s.ctb.commonCycles) : t.wrapsSettled := by
  obtain ⟨⟨ends, limit, trip⟩, loss, waiting, timeout⟩ := h
  refine ⟨⟨(State.endingStep_congr seq).trans ends, by rwa [seq], tripDue.trans trip⟩, ?_, by rwa [lck], ?_⟩
  · exact (State.anyLossDue_congr fun _ => State.lossDue_congr stc (by rw [ptb]) (by rw [ptb])).trans loss
  · unfold State.timeoutDue at timeout ⊢
    rwa [jnt, cycles]

@[simp] theorem State.carryLevelRampEnd_rampDone : s.carryLevelRampEnd.syn.rampDone = false := by
  unfold State.carryLevelRampEnd
  split
  · rfl
  next h => simpa using h

@[simp] theorem State.carryFrequencyRampEnd_rampDone : s.carryFrequencyRampEnd.ctb.rampDone = false := by
  unfold State.carryFrequencyRampEnd
  split
  · rfl
  next h => simpa using h

theorem State.carryFrequencyRampEnd_commonCycles :
    s.carryFrequencyRampEnd.ctb.commonCycles = s.ctb.commonCycles := by
  unfold State.carryFrequencyRampEnd
  split <;> rfl

theorem State.carrySafeEnd_tripDue : s.carrySafeEnd.ftu.tripDue = s.ftu.tripDue := by
  unfold State.carrySafeEnd
  split <;> rfl

@[simp] theorem State.carrySafeEnd_safeDone : s.carrySafeEnd.syn.safeDone = false := by
  unfold State.carrySafeEnd
  split
  · rfl
  next h => simpa using h

theorem State.carrySafeEnd_rampDone {s : State} (h : s.syn.rampDone = false) :
    s.carrySafeEnd.syn.rampDone = false := by
  unfold State.carrySafeEnd
  split
  · rfl
  · exact h

/-- After what is due has been carried out nothing is due. -/
theorem State.settle_due : s.settle.due = false := by
  unfold State.settle
  split
  next =>
    have wraps := State.wrapsSettled_settleWraps s.endsSettled_settleEnds
    generalize s.settleEnds.settleWraps = t at wraps
    have level : t.carryLevelRampEnd.carryFrequencyRampEnd.carrySafeEnd.syn.rampDone = false :=
      State.carrySafeEnd_rampDone (by simp)
    obtain ⟨⟨ends, limit, trip⟩, loss, waiting, timeout⟩ :
        t.carryLevelRampEnd.carryFrequencyRampEnd.carrySafeEnd.wrapsSettled :=
      State.wrapsSettled_congr wraps (by simp) (by simp [State.carrySafeEnd_tripDue]) (by simp) (by simp) (by simp)
        (by simp) (by simp [State.carryFrequencyRampEnd_commonCycles])
    simp only [State.due, ends, limit, trip, loss, waiting, timeout, level, State.carrySafeEnd_safeDone,
      State.carrySafeEnd_ctb, State.carryFrequencyRampEnd_rampDone, Option.isSome_none, Bool.or_self]
  next h => simpa using h

theorem State.settle_ready {s : State} (h : s.running = true) : s.settle.ready :=
  ⟨by rwa [State.settle_running], s.settle_due⟩

theorem State.settle_settle : s.settle.settle = s.settle := State.settle_of_not_due s.settle_due

theorem State.taking_settle {s : State} (h : s.running = true) (f : State → State) :
    s.settle.taking f = s.taking f := by
  rw [State.taking_of_running h, State.taking_of_ready (State.settle_ready h)]

theorem State.resetBy_settle {s : State} (h : s.running = true) (k : StartCause) :
    s.settle.resetBy k = s.resetBy k := by
  rw [State.resetBy_of_running h, State.resetBy_of_running (by rwa [State.settle_running]), State.settle_settle]

/-- A command that is no due event and no stage of the start is taken by a running station after what is due. -/
theorem exec_eq_taking {c : Instr} (event : c.isDueEvent = false) (stage : c.isStartEvent = false) :
    ∃ f : State → State, ∀ s, exec c s = s.taking f := by
  cases c with
  | powerOn | supplyLow | resetPin | resetReleased | powerUpDelayEnd | oscillatorCountEnd => cases stage
  | levelRampEnd | frequencyRampEnd | safeRampDownEnd | stepDurationEnd | markerLimit | ownTrip | peerLost
  | gatherTimeout => cases event
  | sampleEvent x => exact ⟨_, (exec_sampleEvent · x)⟩
  | lineIdle => exact ⟨_, exec_lineIdle⟩
  | transmitStart elapsed => exact ⟨_, (exec_transmitStart · elapsed)⟩
  | arbitrationLoss => exact ⟨_, exec_arbitrationLoss⟩
  | collision => exact ⟨_, exec_collision⟩
  | badFrame => exact ⟨_, exec_badFrame⟩
  | markReceived n m => exact ⟨_, (exec_markReceived · n m)⟩
  | tripReceived n cause slot => exact ⟨_, (exec_tripReceived · n cause slot)⟩
  | joinReceived n tag mask => exact ⟨_, (exec_joinReceived · n tag mask)⟩
  | withdrawReceived n tag reason => exact ⟨_, (exec_withdrawReceived · n tag reason)⟩
  | statusReceived n cause q => exact ⟨_, (exec_statusReceived · n cause q)⟩
  | replyFrameReceived n kind => exact ⟨_, (exec_replyFrameReceived · n kind)⟩
  | ignoredFrameReceived n => exact ⟨_, (exec_ignoredFrameReceived · n)⟩
  | startBitSeen elapsed => exact ⟨_, (exec_startBitSeen · elapsed)⟩
  | dominantBitNotIdle => exact ⟨_, exec_dominantBitNotIdle⟩
  | ownAbortedFrameDiscarded => exact ⟨_, exec_ownAbortedFrameDiscarded⟩
  | setup req v => exact ⟨_, fun s => by rw [exec_setup, execSetup, State.requested]⟩
  | stepWrite req slot raw => exact ⟨_, (exec_stepWrite · req slot raw)⟩
  | profileWrite req index count entries => exact ⟨_, (exec_profileWrite · req index count entries)⟩
  | stepRead req slot => exact ⟨_, exec_stepRead req slot⟩
  | run req start => exact ⟨_, (exec_run · req start)⟩
  | suspend req => exact ⟨_, (exec_suspend · req)⟩
  | release req => exact ⟨_, (exec_release · req)⟩
  | abort req => exact ⟨_, (exec_abort · req)⟩
  | clear req => exact ⟨_, (exec_clear · req)⟩
  | query req => exact ⟨_, exec_query req⟩
  | unreadableRequest req kind first => exact ⟨_, exec_unreadableRequest req kind first⟩

/-- Settles O3: `State.settle` leaves nothing due (`State.settle_due`), so that a second one does nothing, and every
command that is meant takes it first (`exec_eq_taking`). -/
theorem dueEventsComeFirst : Obligations.DueEventsComeFirst := by
  unfold Obligations.DueEventsComeFirst
  intro c s event start running
  refine ⟨State.settle_ready running, ?_⟩
  obtain start | rfl | rfl | rfl := start
  · obtain ⟨f, taken⟩ := exec_eq_taking event start
    rw [taken, taken, State.taking_settle running]
  · rw [exec_powerOn, exec_powerOn, State.resetBy_settle running]
  · rw [exec_supplyLow, exec_supplyLow, State.resetBy_settle running]
  · rw [exec_resetPin, exec_resetPin, State.resetBy_settle running]

end

end Sys2Proof.Machine
end

section
/-! PROOFS. How SEQ lets go of a step short of its duration (R87, R91, R92): the fall of the output, the write-back and
the rest of SEQ, in the terms of the statements. -/

namespace Sys2Proof.Machine

/-! ### Frames of a change -/

/-- The frame of a change, block by block. -/
theorem State.onlyChanges_iff {s t : State} {l : List Block} :
    s.onlyChanges t l ↔ (.stc ∉ l → t.stc = s.stc) ∧ (.ctb ∉ l → t.ctb = s.ctb) ∧ (.syn ∉ l → t.syn = s.syn)
      ∧ (.ovl ∉ l → t.ovl = s.ovl) ∧ (.pls ∉ l → t.pls = s.pls) ∧ (.seq ∉ l → t.seq = s.seq)
      ∧ (.jnt ∉ l → t.jnt = s.jnt) ∧ (.lnk ∉ l → t.lnk = s.lnk) ∧ (.ptb ∉ l → t.ptb = s.ptb)
      ∧ (.lck ∉ l → t.lck = s.lck) ∧ (.fbm ∉ l → t.fbm = s.fbm) ∧ (.ftu ∉ l → t.ftu = s.ftu)
      ∧ t.freeCount = s.freeCount ∧ t.pending = s.pending := by
  constructor
  · rintro ⟨blocks, count, pending⟩
    exact ⟨blocks .stc, blocks .ctb, blocks .syn, blocks .ovl, blocks .pls, blocks .seq, blocks .jnt, blocks .lnk,
      blocks .ptb, blocks .lck, blocks .fbm, blocks .ftu, count, pending⟩
  · rintro ⟨stc, ctb, syn, ovl, pls, seq, jnt, lnk, ptb, lck, fbm, ftu, count, pending⟩
    refine ⟨fun b => ?_, count, pending⟩
    cases b <;> assumption

theorem State.onlyChanges.refl (s : State) (l : List Block) : s.onlyChanges s l := by
  simp [State.onlyChanges_iff]

theorem State.onlyChanges.mono {s t : State} {a b : List Block} (h : s.onlyChanges t a) (sub : a ⊆ b) :
    s.onlyChanges t b :=
  ⟨fun x outside => h.1 x fun inside => outside (sub inside), h.2⟩

/-! ### Frames offered one after another -/

/-- One more frame is offered behind the others, by its name. -/
theorem Lnk.offersNamed.snoc {l m : Lnk} {names : List FrameName} (h : l.offersNamed m names) {x : TxItem}
    {name : FrameName} (named : x.name = name) : l.offersNamed (m.offer x) (names ++ [name]) :=
  named ▸ Lnk.offersNamed_snoc h x

theorem State.offerStatus_lnk (s : State) (c : StatusCause) :
    (s.offerStatus c).lnk = s.lnk.offer (.frame 15 (.status (s.summary c))) := rfl

/-- A STATUS carries its cause and the state of SEQ as it stands (R69). -/
theorem Lnk.offersNamed.status {l : Lnk} {names : List FrameName} {s : State} (h : l.offersNamed s.lnk names)
    {c : StatusCause} {q : SeqState} (state : s.seq.state = q) :
    l.offersNamed (s.offerStatus c).lnk (names ++ [.status c q]) := by
  subst state
  exact h.snoc (x := .frame 15 (.status (s.summary c))) rfl

/-! ### The write-back -/

section
variable (s : State)

@[simp] theorem State.writeBack_pls (r : StepRecord) (e : EndReason) (live : Bool) (p : Pass) :
    (s.writeBack r e live p).pls
      = s.pls.setSlot s.seq.pointer ((s.pls.slot s.seq.pointer).written live e p) := by
  simp only [State.writeBack]
  split <;> rfl

/-- A write-back offers a RESULT when the step's `notify` is yes (R82). -/
theorem State.writeBack_offers (r : StepRecord) (e : EndReason) (live : Bool) (p : Pass) :
    s.lnk.offersNamed (s.writeBack r e live p).lnk
      (if r.notify then [.result s.seq.pointer live e] else []) := by
  simp only [State.writeBack]
  split
  · refine (Lnk.offersNamed_nil s.lnk).snoc (x := .frame 15 (.result s.seq.pointer live
      (mergeOutcome (s.pls.slot s.seq.pointer).outcome e p))) ?_
    cases h : (s.pls.slot s.seq.pointer).outcome <;> rfl
  · exact Lnk.offersNamed_nil s.lnk

/-! ### The fall of the output -/

theorem State.enterFalling_of_live {s : State} (h : s.syn.out = .live) :
    s.enterFalling = ((s.setSyn (s.syn.fall s.stc.setup.dSafe)).setOvl Ovl.allOff).setCtb { s.ctb with ramp := none } := by
  simp [State.enterFalling, h]

theorem State.enterFalling_of_not_live {s : State} (h : s.syn.out ≠ .live) : s.enterFalling = s := by
  simp [State.enterFalling, h]

/-- What a fall makes of the output (R33, R49). -/
theorem State.fallsTo_enterFalling : s.fallsTo s.enterFalling := by
  refine ⟨fun live => ?_, fun notLive => ?_⟩
  · rw [State.enterFalling_of_live live]
    exact ⟨rfl, fun i => Ovl.slot_allOff i, rfl⟩
  · rw [State.enterFalling_of_not_live notLive]
    exact ⟨rfl, rfl, rfl⟩

/-- A fall turns on the output blocks alone. -/
theorem State.fallsTo.congr {s t s' t' : State} (h : s.fallsTo t) (syn : s'.syn = s.syn) (ovl : s'.ovl = s.ovl)
    (ctb : s'.ctb = s.ctb) (stc : s'.stc = s.stc) (syn' : t'.syn = t.syn) (ovl' : t'.ovl = t.ovl)
    (ctb' : t'.ctb = t.ctb) : s'.fallsTo t' := by
  unfold State.fallsTo at *
  rwa [syn, ovl, ctb, stc, syn', ovl', ctb']

@[simp] theorem State.enterFalling_limitedSamples : s.enterFalling.syn.limitedSamples = s.syn.limitedSamples := by
  unfold State.enterFalling
  split <;> rfl

/-! ### Letting go of a step -/

/-- SEQ lets go of whatever it holds, comes to rest in a state, and the output falls (R87, R91, R92). -/
def State.letGo (e : EndReason) (w : WithdrawReason) (q : SeqState) : State :=
  ((s.dropStep e w).rest q).enterFalling

theorem State.dropStep_of_inEffect {s : State} {r : StepRecord} (image : s.seq.image = some r)
    (state : s.seq.state = .active ∨ s.seq.state = .frozen) (e : EndReason) (w : WithdrawReason) :
    s.dropStep e w = (s.writeBack r e false s.passMeasures).pointToNext r := by
  obtain state | state := state <;> simp [State.dropStep, state, image]

theorem State.dropStep_of_held {s : State} {r : StepRecord} (image : s.seq.image = some r)
    (state : s.seq.state = .held) (e : EndReason) (w : WithdrawReason) : s.dropStep e w = s.pointToNext r := by
  simp [State.dropStep, state, image]

theorem State.dropStep_of_gathering {s : State} (state : s.seq.state = .gathering) (e : EndReason)
    (w : WithdrawReason) : s.dropStep e w = s.leaveGathering w := by
  simp [State.dropStep, state]

/-- With no step in effect, held or gathering there is nothing to let go of. -/
theorem State.dropStep_of_nothing {s : State} (state : s.seq.state = .armed ∨ s.seq.state = .suspended
    ∨ s.seq.state = .idle ∨ s.seq.state = .tripped ∨ s.seq.state = .faulted) (e : EndReason) (w : WithdrawReason) :
    s.dropStep e w = s := by
  obtain state | state | state | state | state := state <;> simp [State.dropStep, state]

theorem State.dropStep_of_no_image {s : State} (image : s.seq.image = none) (state : s.seq.state ≠ .gathering)
    (e : EndReason) (w : WithdrawReason) : s.dropStep e w = s := by
  unfold State.dropStep
  rw [image]
  split <;> simp_all

/-- Letting go of a step moves at most the pointer of SEQ. -/
theorem State.dropStep_seq (e : EndReason) (w : WithdrawReason) :
    (s.dropStep e w).seq = { s.seq with pointer := (s.dropStep e w).seq.pointer } := by
  unfold State.dropStep
  split <;> simp [State.pointToNext]

/-- Letting go of a step reads nothing that a fall of the output changes. -/
theorem State.dropStep_setSyn_setOvl_setCtb (y : Syn) (o : Ovl) (c : Ctb) (e : EndReason) (w : WithdrawReason)
    (count : y.limitedSamples = s.syn.limitedSamples) :
    (((s.setSyn y).setOvl o).setCtb c).dropStep e w = (((s.dropStep e w).setSyn y).setOvl o).setCtb c := by
  have pass : (((s.setSyn y).setOvl o).setCtb c).passMeasures = s.passMeasures := by
    simp [State.passMeasures, count]
  have back : ∀ r p, (((s.setSyn y).setOvl o).setCtb c).writeBack r e false p
      = (((s.writeBack r e false p).setSyn y).setOvl o).setCtb c := by
    intro r p
    unfold State.writeBack
    cases r.notify <;> rfl
  have leaves : (((s.setSyn y).setOvl o).setCtb c).leaveGathering w
      = (((s.leaveGathering w).setSyn y).setOvl o).setCtb c := by
    unfold State.leaveGathering
    by_cases idle : s.jnt.gate = .idle
    · rw [if_pos idle, if_pos (by exact idle)]
    · rw [if_neg idle, if_neg (by exact idle)]
      rfl
  unfold State.dropStep
  rw [pass]
  cases state : s.seq.state <;> cases image : s.seq.image <;> simp [state, image, leaves, back] <;> rfl

/-- The fall of the output and the letting go of a step touch nothing in common, so that either may come first. -/
theorem State.enterFalling_dropStep_rest (e : EndReason) (w : WithdrawReason) (q : SeqState) :
    (s.enterFalling.dropStep e w).rest q = s.letGo e w q := by
  by_cases live : s.syn.out = .live
  · have falls : ((s.dropStep e w).rest q).syn.out = .live := by simpa using live
    have count : (s.syn.fall s.stc.setup.dSafe).limitedSamples = s.syn.limitedSamples := rfl
    rw [State.letGo, State.enterFalling_of_live falls, State.enterFalling_of_live live,
      State.dropStep_setSyn_setOvl_setCtb s _ _ _ e w count]
    simp only [State.rest_syn, State.rest_stc, State.rest_ctb, State.dropStep_syn, State.dropStep_stc,
      State.dropStep_ctb]
    rfl
  · have stands : ((s.dropStep e w).rest q).syn.out ≠ .live := by simpa using live
    rw [State.letGo, State.enterFalling_of_not_live stands, State.enterFalling_of_not_live live]


end

/-! ### What letting go leaves alone -/

section
variable (s : State) (e : EndReason) (w : WithdrawReason) (q : SeqState)

@[simp] theorem State.letGo_stc : (s.letGo e w q).stc = s.stc := by simp [State.letGo]
@[simp] theorem State.letGo_ptb : (s.letGo e w q).ptb = s.ptb := by simp [State.letGo]
@[simp] theorem State.letGo_lck : (s.letGo e w q).lck = s.lck := by simp [State.letGo]
@[simp] theorem State.letGo_fbm : (s.letGo e w q).fbm = s.fbm := by simp [State.letGo]
@[simp] theorem State.letGo_ftu : (s.letGo e w q).ftu = s.ftu := by simp [State.letGo]
@[simp] theorem State.letGo_freeCount : (s.letGo e w q).freeCount = s.freeCount := by simp [State.letGo]
@[simp] theorem State.letGo_pending : (s.letGo e w q).pending = s.pending := by simp [State.letGo]
@[simp] theorem State.letGo_pls : (s.letGo e w q).pls = (s.dropStep e w).pls := by simp [State.letGo]
@[simp] theorem State.letGo_jnt : (s.letGo e w q).jnt = (s.dropStep e w).jnt := by simp [State.letGo]
@[simp] theorem State.letGo_lnk : (s.letGo e w q).lnk = (s.dropStep e w).lnk := by simp [State.letGo]

/-- SEQ at rest: the pointer is where letting go has left it, and what belongs to no step stands. -/
theorem State.letGo_seq :
    (s.letGo e w q).seq
      = { s.seq with
          state := q, loop := none, suspendLatch := false, image := none, awaitOpen := false, retest := false
          markerLimit := false, pointer := (s.dropStep e w).seq.pointer } := by
  rw [State.letGo, State.enterFalling_seq, State.rest, State.setSeq_seq, State.dropStep_seq]

theorem State.fallsTo_letGo : s.fallsTo (s.letGo e w q) :=
  (State.fallsTo_enterFalling ((s.dropStep e w).rest q)).congr (by simp) (by simp) (by simp) (by simp) rfl rfl rfl

end

/-! ### Letting go, as the statements have it -/

section
variable {s u : State} {heard : Lnk} {first : List FrameName} {also : List Block}

/-- A station as the statements of letting go start from it: at most LNK and blocks that letting go does not read
have changed, and LNK has been offered the first frames. -/
structure State.StandsFor (s u : State) (heard : Lnk) (first : List FrameName) (also : List Block) : Prop where
  frame : s.onlyChanges u (.lnk :: also)
  apart : also ⊆ [.ptb, .ftu, .lck, .fbm]
  folded : u.ftu.foldedCycles = s.ftu.foldedCycles
  offered : heard.offersNamed u.lnk first

/-- The blocks that letting go works on stand. -/
theorem State.StandsFor.blocks (h : s.StandsFor u heard first also) :
    u.stc = s.stc ∧ u.ctb = s.ctb ∧ u.syn = s.syn ∧ u.ovl = s.ovl ∧ u.pls = s.pls ∧ u.seq = s.seq ∧ u.jnt = s.jnt := by
  have outside : ∀ b, b ∉ [Block.ptb, .ftu, .lck, .fbm] → b ≠ .lnk → b ∉ Block.lnk :: also := by
    intro b notThese notLnk inside
    rcases List.mem_cons.1 inside with rfl | inside
    · exact notLnk rfl
    · exact notThese (h.apart inside)
  exact ⟨h.frame.1 .stc (outside _ (by decide) (by decide)), h.frame.1 .ctb (outside _ (by decide) (by decide)),
    h.frame.1 .syn (outside _ (by decide) (by decide)), h.frame.1 .ovl (outside _ (by decide) (by decide)),
    h.frame.1 .pls (outside _ (by decide) (by decide)), h.frame.1 .seq (outside _ (by decide) (by decide)),
    h.frame.1 .jnt (outside _ (by decide) (by decide))⟩

/-- The step is let go of, a fault cause is recorded, and the last STATUS is offered (R69, R87, R91, R92). -/
def State.letGoWith (s : State) (e : EndReason) (w : WithdrawReason) (q : SeqState) (fault : FaultCause)
    (c : StatusCause) : State :=
  ((s.letGo e w q).setSeq { (s.letGo e w q).seq with faultCause := fault }).offerStatus c

theorem State.letGoWith_lnk (s : State) (e : EndReason) (w : WithdrawReason) (q : SeqState) (fault : FaultCause)
    (c : StatusCause) {names : List FrameName} {l : Lnk} (offered : l.offersNamed (s.dropStep e w).lnk names) :
    l.offersNamed (s.letGoWith e w q fault c).lnk (names ++ [.status c q]) := by
  refine Lnk.offersNamed.status (q := q) ?_ ?_
  · simpa using offered
  · simp [State.letGo_seq]

/-- The frame of letting go: the blocks of the fall, SEQ, LNK, and what letting go of the step itself changes. -/
theorem State.StandsFor.onlyChanges_letGoWith (h : s.StandsFor u heard first also) (e : EndReason)
    (w : WithdrawReason) (q : SeqState) (fault : FaultCause) (c : StatusCause) (more : List Block)
    (pls : .pls ∉ more → (u.dropStep e w).pls = u.pls) (jnt : .jnt ∉ more → (u.dropStep e w).jnt = u.jnt) :
    s.onlyChanges (u.letGoWith e w q fault c) (more ++ ([.syn, .ovl, .ctb, .seq, .lnk] ++ also)) := by
  obtain ⟨stc, ctb, syn, ovl, plan, seq, gate⟩ := h.blocks
  have frame := State.onlyChanges_iff.1 h.frame
  obtain ⟨-, -, -, -, -, -, -, -, ptb, lck, fbm, ftu, count, pending⟩ := frame
  rw [State.onlyChanges_iff]
  simp only [State.letGoWith, State.offerStatus_stc, State.offerStatus_ctb, State.offerStatus_syn,
    State.offerStatus_ovl, State.offerStatus_pls, State.offerStatus_jnt, State.offerStatus_ptb,
    State.offerStatus_lck, State.offerStatus_fbm, State.offerStatus_ftu, State.offerStatus_freeCount,
    State.offerStatus_pending, State.setSeq_stc, State.setSeq_pls, State.setSeq_jnt, State.setSeq_ptb,
    State.setSeq_lck, State.setSeq_fbm, State.setSeq_ftu, State.setSeq_freeCount, State.setSeq_pending,
    State.letGo_stc, State.letGo_pls, State.letGo_jnt, State.letGo_ptb, State.letGo_lck, State.letGo_fbm,
    State.letGo_ftu, State.letGo_freeCount, State.letGo_pending, List.mem_append, List.mem_cons,
    List.not_mem_nil, not_or, or_false]
  refine ⟨fun _ => stc, fun o => by simp at o, fun o => by simp at o, fun o => by simp at o,
    fun o => (pls o.1).trans plan, fun o => by simp at o, fun o => (jnt o.1).trans gate, fun o => by simp at o,
    fun o => ptb ?_, fun o => lck ?_, fun o => fbm ?_, fun o => ftu ?_,
    count, pending⟩ <;> simpa using o.2.2

/-- Letting go of whatever SEQ holds, as the statements have it (R87, R91, R92, R137). -/
theorem State.StandsFor.dropsTo (h : s.StandsFor u heard first also) (e : EndReason) (w : WithdrawReason)
    (q : SeqState) (fault : FaultCause) (c : StatusCause) :
    s.dropsTo (u.letGoWith e w q fault c) heard first [.status c q] e w q also := by
  obtain ⟨stc, ctb, syn, ovl, plan, seq, gate⟩ := h.blocks
  have rested : (u.letGoWith e w q fault c).seq
      = { s.seq with
          state := q, loop := none, suspendLatch := false, image := none, awaitOpen := false, retest := false
          markerLimit := false, pointer := (u.dropStep e w).seq.pointer, faultCause := fault } := by
    simp [State.letGoWith, State.letGo_seq, seq]
  have kept : ∀ more, (.pls ∉ more → (u.dropStep e w).pls = u.pls) → (.jnt ∉ more → (u.dropStep e w).jnt = u.jnt) →
      s.onlyChanges (u.letGoWith e w q fault c) (more ++ ([.syn, .ovl, .ctb, .seq, .lnk] ++ also)) :=
    h.onlyChanges_letGoWith e w q fault c
  refine ⟨?_, ?_, ?_, ?_, ?_, ?_, ?_, ?_, ?_, ?_, ?_, ?_⟩
  · exact (State.fallsTo_letGo u e w q).congr syn.symm ovl.symm ctb.symm stc.symm rfl rfl rfl
  iterate 7 · rw [rested]
  · intro r image state
    have drop := State.dropStep_of_inEffect (s := u) (by rw [seq]; exact image) (by rw [seq]; exact state) e w
    refine ⟨?_, ?_, ?_, ?_⟩
    · simp [State.letGoWith, drop, State.passMeasures, plan, seq, syn, h.folded]
    · rw [rested]
      simp [drop, State.pointToNext, Seq.nextSlot, seq]
    · refine State.letGoWith_lnk u e w q fault c ?_
      simpa [drop, State.pointToNext, seq] using
        Lnk.offersNamed_append h.offered (State.writeBack_offers u r e false u.passMeasures)
    · exact kept [.pls] (by simp) fun _ => by simp [drop, State.pointToNext]
  · intro r image state
    have drop := State.dropStep_of_held (s := u) (by rw [seq]; exact image) (by rw [seq]; exact state) e w
    refine ⟨?_, ?_, kept [] (fun _ => ?_) fun _ => ?_⟩
    · rw [rested]
      simp [drop, State.pointToNext, Seq.nextSlot, seq]
    · refine State.letGoWith_lnk u e w q fault c ?_
      rw [drop]
      exact h.offered
    · simp [drop, State.pointToNext]
    · simp [drop, State.pointToNext]
  · intro state
    have drop := State.dropStep_of_nothing (s := u) (by rw [seq]; tauto) e w
    refine ⟨?_, ?_, kept [] (fun _ => by rw [drop]) fun _ => by rw [drop]⟩
    · rw [rested, drop, seq]
    · refine State.letGoWith_lnk u e w q fault c ?_
      rw [drop]
      exact h.offered
  · intro state opened
    have drop := State.dropStep_of_gathering (s := u) (by rw [seq]; exact state) e w
    have leaves : u.leaveGathering w
        = (u.removeJoin.offerWithdraw w).setJnt { (u.removeJoin.offerWithdraw w).jnt with gate := .idle } := by
      rw [State.leaveGathering, if_neg (by rw [gate]; exact opened)]
    refine ⟨?_, ?_, ⟨u.lnk, h.offered, ?_⟩, kept [.jnt] (fun _ => by rw [drop, State.leaveGathering_pls]) (by simp)⟩
    · rw [rested, drop, State.leaveGathering_seq, seq]
    · simp [State.letGoWith, drop, leaves, gate]
    · refine State.letGoWith_lnk u e w q fault c (names := [.withdraw s.jnt.tag w]) ?_
      rw [drop, leaves, ← gate]
      exact Lnk.offersNamed_one _ (.frame 15 (.withdraw u.jnt.tag w))

end
end Sys2Proof.Machine
end

section
/-! PROOFS. The station's own trip, a fault, and an ABORT, each of which lets go of whatever SEQ holds: O32 and O52. -/

namespace Sys2Proof.Machine

/-! ### What they let go of -/

section
variable (s : State)

/-- A fault cause that is SEQ's own changes nothing. -/
theorem State.letGoWith_own (e : EndReason) (w : WithdrawReason) (q : SeqState) (c : StatusCause) :
    s.letGoWith e w q s.seq.faultCause c = (s.letGo e w q).offerStatus c := by
  have same : { (s.letGo e w q).seq with faultCause := s.seq.faultCause } = (s.letGo e w q).seq := by
    rw [State.letGo_seq]
  unfold State.letGoWith
  rw [same]
  rfl

/-- A trip offers TRIP and then lets go (R91, R153). -/
theorem State.trip_eq {s : State} (tripped : s.seq.state ≠ .tripped) (faulted : s.seq.state ≠ .faulted)
    (c : TripCause) :
    s.trip c = ((s.setFtu { s.ftu with tripCause := some c }).offerAll (.trip c s.seq.pointer)).letGoWith .tripped
      .ownTrip .tripped s.seq.faultCause .trip := by
  have own := State.letGoWith_own ((s.setFtu { s.ftu with tripCause := some c }).offerAll (.trip c s.seq.pointer))
    .tripped .ownTrip .tripped .trip
  rw [State.offerAll_seq, State.setFtu_seq] at own
  rw [own, ← State.enterFalling_dropStep_rest]
  simp [State.trip, tripped, faulted]

/-- A fault lets go, and records its cause (R92). -/
theorem State.fault_eq {s : State} (faulted : s.seq.state ≠ .faulted) (c : FaultCause) :
    s.fault c = s.letGoWith .aborted .aborted .faulted c .fault := by
  simp [State.fault, faulted, State.letGoWith, State.letGo]

/-- An ABORT lets go, but in TRIPPED, FAULTED and IDLE with the output not LIVE (R87). -/
theorem State.abort_eq {s : State} (tripped : s.seq.state ≠ .tripped) (faulted : s.seq.state ≠ .faulted)
    (idle : s.seq.state ≠ .idle ∨ s.syn.out = .live) :
    s.abort = s.letGoWith .aborted .aborted .idle s.seq.faultCause .abort := by
  have acts : ¬ (s.seq.state = .idle ∧ s.syn.out ≠ .live) := by tauto
  rw [State.letGoWith_own]
  simp [State.abort, tripped, faulted, State.letGo] at acts ⊢
  tauto

theorem State.abort_of_nothing {s : State} (h : s.seq.state = .tripped ∨ s.seq.state = .faulted
    ∨ (s.seq.state = .idle ∧ s.syn.out ≠ .live)) : s.abort = s := by
  have nothing : (s.seq.state = .tripped || s.seq.state = .faulted || (s.seq.state = .idle && s.syn.out ≠ .live))
      = true := by
    simpa [or_assoc] using h
  rw [State.abort, if_pos nothing]

end

/-! ### Stations that differ from another only in what letting go does not read -/

section
variable {s u : State} {heard : Lnk} {first : List FrameName} {also : List Block}

/-- With another LNK alone. -/
theorem State.StandsFor.setLnk (s : State) (l : Lnk) {also : List Block} (apart : also ⊆ [.ptb, .ftu, .lck, .fbm]) :
    s.StandsFor (s.setLnk l) l [] also where
  frame := (s.onlyChanges_setLnk l).mono (by simp)
  apart := apart
  folded := rfl
  offered := Lnk.offersNamed_nil l

theorem State.StandsFor.refl (s : State) {also : List Block} (apart : also ⊆ [.ptb, .ftu, .lck, .fbm]) :
    s.StandsFor s s.lnk [] also := State.StandsFor.setLnk s s.lnk apart

theorem State.StandsFor.setPtb (h : s.StandsFor u heard first also) (p : Ptb) (inside : .ptb ∈ also) :
    s.StandsFor (u.setPtb p) heard first also where
  frame := by
    have frame := State.onlyChanges_iff.1 h.frame
    rw [State.onlyChanges_iff]
    simpa [inside] using frame
  apart := h.apart
  folded := h.folded
  offered := h.offered

theorem State.StandsFor.setFtu (h : s.StandsFor u heard first also) {f : Ftu} (inside : .ftu ∈ also)
    (folded : f.foldedCycles = u.ftu.foldedCycles) : s.StandsFor (u.setFtu f) heard first also where
  frame := by
    have frame := State.onlyChanges_iff.1 h.frame
    rw [State.onlyChanges_iff]
    simpa [inside] using frame
  apart := h.apart
  folded := folded.trans h.folded
  offered := h.offered

theorem State.StandsFor.offerAll (h : s.StandsFor u heard first also) (p : Payload) :
    s.StandsFor (u.offerAll p) heard (first ++ [(TxItem.frame 15 p).name]) also where
  frame := by
    have frame := State.onlyChanges_iff.1 h.frame
    rw [State.onlyChanges_iff]
    simpa using frame
  apart := h.apart
  folded := by simpa using h.folded
  offered := Lnk.offersNamed_snoc h.offered (.frame 15 p)

/-- A trip, as the statements have it, of a station at which nothing is offered yet (R91, R151, R155). -/
theorem State.StandsFor.tripsTo (h : s.StandsFor u heard [] (.ftu :: also)) (tripped : s.seq.state ≠ .tripped)
    (faulted : s.seq.state ≠ .faulted) (c : TripCause) : s.tripsTo (u.trip c) heard c also := by
  obtain ⟨-, -, -, -, -, seq, -⟩ := h.blocks
  have offered := (h.setFtu (f := { u.ftu with tripCause := some c }) (by simp) rfl).offerAll (.trip c s.seq.pointer)
  rw [State.trip_eq (by rwa [seq]) (by rwa [seq]), State.tripsTo, seq]
  exact offered.dropsTo _ _ _ _ _

/-- A fault, as the statements have it (R92). -/
theorem State.StandsFor.faultsTo (h : s.StandsFor u heard [] []) (faulted : s.seq.state ≠ .faulted)
    (c : FaultCause) : s.faultsTo (u.fault c) heard c := by
  obtain ⟨-, -, -, -, -, seq, -⟩ := h.blocks
  rw [State.fault_eq (by rwa [seq])]
  exact ⟨h.dropsTo _ _ _ _ _, by simp [State.letGoWith]⟩

/-- FTU after a trip that is made. -/
theorem State.trip_ftu_of_runs (tripped : s.seq.state ≠ .tripped) (faulted : s.seq.state ≠ .faulted) (c : TripCause) :
    (s.trip c).ftu = { s.ftu with tripCause := some c } := by
  simp [State.trip_eq tripped faulted, State.letGoWith]

end

/-! ### O32 -/

theorem State.carryMarkerLimit_of_none {s : State} (h : s.seq.markerLimit = false) : s.carryMarkerLimit = s := by
  simp [State.carryMarkerLimit, h]

theorem State.carryMarkerLimit_state {s : State} (h : s.seq.markerLimit = true) :
    s.carryMarkerLimit.seq.state = .faulted := by
  simp [State.carryMarkerLimit, h]

/-- An own trip that is due, with no fault of a taking before it. -/
theorem State.carryOwnTrip_of_due {s : State} (due : s.ftu.tripDue = true) (none : s.seq.markerLimit = false) :
    s.carryOwnTrip = (s.setFtu { s.ftu with tripDue := false }).trip .foldback := by
  simp [State.carryOwnTrip, due, State.carryMarkerLimit_of_none none]

/-- A fault of a taking comes first, and then no trip is made (R73, R151). -/
theorem State.carryOwnTrip_of_fault {s : State} (due : s.ftu.tripDue = true) (limit : s.seq.markerLimit = true) :
    s.carryOwnTrip = s.carryMarkerLimit.setFtu { s.carryMarkerLimit.ftu with tripDue := false } := by
  have faulted := State.carryMarkerLimit_state limit
  simp only [State.carryOwnTrip, due, if_true]
  rw [State.trip_of_stopped]
  exact .inr faulted

/-- Settles O32. -/
theorem ownTripEndsTheStep : Obligations.OwnTripEndsTheStep := by
  unfold Obligations.OwnTripEndsTheStep
  refine ⟨fun s running due none tripped faulted => ?_, fun s running due limit => ?_, fun s running due => ?_⟩
  · have stands := (State.StandsFor.refl s (also := [.ftu]) (by simp)).setFtu (f := { s.ftu with tripDue := false })
      (by simp) rfl
    refine ⟨_, ?_, ?_, stands.tripsTo tripped faulted .foldback⟩
    · rw [exec_ownTrip, State.carrying_of_running running, State.carryOwnTrip_of_due due none]
    · exact State.trip_ftu_of_runs (s := s.setFtu { s.ftu with tripDue := false }) tripped faulted .foldback
  · refine ⟨s.carryMarkerLimit, _, ?_, ?_, rfl, ?_⟩
    · rw [exec_markerLimit, State.carrying_of_running running]
    · rw [exec_ownTrip, State.carrying_of_running running, State.carryOwnTrip_of_fault due limit]
    · exact State.carryMarkerLimit_state limit
  · simp [exec_ownTrip, State.carrying_of_running running, State.carryOwnTrip, due]

/-! ### O52 -/

/-- An ABORT that a hearing station takes. -/
theorem exec_abort_of_hearing {s : State} (h : s.hearing) (req : Requester) :
    exec (.abort req) s = .next (s.frameEnd.answer req .abort 0 (abortAnswer s.seq.state)).abort := by
  rw [exec_abort, State.requested_of_hearing h]
  rfl

/-- The station once it has heard and answered a request, as letting go starts from it. -/
theorem State.standsFor_answer (s : State) (req : Requester) (kind : RequestKind) (first : Byte) (code : AnswerCode) :
    s.StandsFor (s.frameEnd.answer req kind first code) s.lnk.frameEnded (answerNames req kind first code) [] where
  frame := (s.answer_frameEnd req kind first code).1
  apart := by simp
  folded := by
    obtain ⟨l, answered, -⟩ := s.frameEnd.answer_eq_setLnk req kind first code
    rw [answered]
    rfl
  offered := (s.answer_frameEnd req kind first code).2

/-- An ABORT that ends what SEQ holds. -/
theorem State.abort_dropsTo {s : State} (req : Requester) (tripped : s.seq.state ≠ .tripped)
    (faulted : s.seq.state ≠ .faulted) (idle : s.seq.state ≠ .idle ∨ s.syn.out = .live) :
    s.dropsTo (s.frameEnd.answer req .abort 0 (abortAnswer s.seq.state)).abort s.lnk.frameEnded
      (answerNames req .abort 0 .ok) [.status .abort .idle] .aborted .aborted .idle [] := by
  have stands := s.standsFor_answer req .abort 0 .ok
  obtain ⟨-, -, syn, -, -, seq, -⟩ := stands.blocks
  have ok : abortAnswer s.seq.state = .ok := by simp [abortAnswer, tripped, faulted]
  rw [ok, State.abort_eq (by rwa [seq]) (by rwa [seq]) (by rwa [seq, syn])]
  exact stands.dropsTo _ _ _ _ _

/-- An ABORT that does nothing but to be answered. -/
theorem State.abort_of_answered {s : State} (req : Requester) {code : AnswerCode} (h : s.seq.state = .tripped
    ∨ s.seq.state = .faulted ∨ (s.seq.state = .idle ∧ s.syn.out ≠ .live)) :
    (s.frameEnd.answer req .abort 0 code).abort = s.frameEnd.answer req .abort 0 code := by
  obtain ⟨-, -, syn, -, -, seq, -⟩ := (s.standsFor_answer req .abort 0 code).blocks
  exact State.abort_of_nothing (by rwa [seq, syn])

/-- Settles O52. -/
theorem abortByState : Obligations.AbortByState := by
  unfold Obligations.AbortByState
  refine ⟨fun s req r hears image state live => ?_, fun s req hears => ⟨fun state => ?_, fun idle dark => ?_,
    fun next live moves => ?_, fun state opened => ?_⟩⟩
  · have tripped : s.seq.state ≠ .tripped := by rintro h; simp [h] at state
    have faulted : s.seq.state ≠ .faulted := by rintro h; simp [h] at state
    obtain ⟨falls, idle, loop, latch, none, out0, out1, ring, effect, -⟩ :=
      State.abort_dropsTo req tripped faulted (.inr live)
    obtain ⟨plan, pointer, offered, frame⟩ := effect r image state
    exact ⟨_, exec_abort_of_hearing hears req, plan, idle, none, loop, latch, pointer, ring, out0, out1, falls,
      offered, frame.mono (by simp)⟩
  · have refused : abortAnswer s.seq.state = .refused := by obtain h | h := state <;> rw [h] <;> rfl
    rw [exec_abort_of_hearing hears, refused, State.abort_of_answered req (by tauto)]
    exact ⟨_, rfl, s.answer_frameEnd req .abort 0 .refused⟩
  · have ok : abortAnswer s.seq.state = .ok := by rw [idle]; rfl
    rw [exec_abort_of_hearing hears, ok, State.abort_of_answered req (.inr (.inr ⟨idle, dark⟩))]
    exact ⟨_, rfl, s.answer_frameEnd req .abort 0 .ok⟩
  · have tripped : s.seq.state ≠ .tripped := by rintro h; simp [h] at moves
    have faulted : s.seq.state ≠ .faulted := by rintro h; simp [h] at moves
    obtain ⟨falls, idle, loop, latch, none, -, -, -, -, held, kept, -⟩ :=
      State.abort_dropsTo req tripped faulted (.inr live)
    obtain ⟨state, rfl⟩ | ⟨r, state, image, rfl⟩ := moves
    · obtain ⟨pointer, offered, frame⟩ := kept (by tauto)
      exact ⟨_, exec_abort_of_hearing hears req, idle, pointer, none, loop, latch, falls, offered,
        frame.mono (by simp)⟩
    · obtain ⟨pointer, offered, frame⟩ := held r image state
      exact ⟨_, exec_abort_of_hearing hears req, idle, pointer, none, loop, latch, falls, offered,
        frame.mono (by simp)⟩
  · obtain ⟨falls, idle, loop, latch, none, -, -, -, -, -, -, gathers⟩ :=
      State.abort_dropsTo req (s := s) (by simp [state]) (by simp [state]) (.inl (by simp [state]))
    obtain ⟨pointer, gate, ⟨answered, first, last⟩, frame⟩ := gathers state opened
    exact ⟨_, answered, exec_abort_of_hearing hears req, idle, pointer, none, loop, latch, falls, gate, first, last,
      frame.mono (by simp)⟩

end Sys2Proof.Machine
end

section
/-! PROOFS. What a received frame, a peer's trip or loss, and the end of a peer's trouble make of a station: O33, O34,
O35, O36 and O37. -/

namespace Sys2Proof.Machine

/-! ### A frame heard to its end -/

@[simp] theorem toNat_nodeOf (n : Station) : (nodeOf n).toNat = n.toNat := by
  simp only [nodeOf, BitVec.toNat_setWidth]
  omega

section
variable {s : State} {n : NodeNumber} {isThis : Payload → Bool} {f : State → State}

/-- A frame of another station is dispatched (R102). -/
theorem State.received_of_other (h : s.lnk.assembling = true) (other : n.toNat ≠ s.own.toNat) :
    s.received n isThis f = f s.frameEnd := by
  rw [State.received, State.heard_of_assembling h, if_neg (by exact other)]

/-- The station's own frame, back from its shifter, is dispatched and leaves the shifter empty (R102, R105). -/
theorem State.received_of_sent (h : s.lnk.assembling = true) (own : n.toNat = s.own.toNat) {x : Shifter}
    (shifter : s.lnk.shifter = some x) (this : isThis x.payload = true) :
    s.received n isThis f = f (s.setLnk { s.lnk.frameEnded with shifter := none }) := by
  have shifter' : s.frameEnd.lnk.shifter = some x := shifter
  rw [State.received, State.heard_of_assembling h, if_pos (by exact own), shifter']
  simp only [this, if_true]
  rfl

/-- A frame of the station's number that it did not send is a duplicate number (R99). -/
theorem State.received_of_duplicate (h : s.lnk.assembling = true) (own : n.toNat = s.own.toNat)
    (not : ∀ x, s.lnk.shifter = some x → isThis x.payload = false) :
    s.received n isThis f = s.frameEnd.fault .duplicateNumber := by
  rw [State.received, State.heard_of_assembling h, if_pos (by exact own)]
  cases shifter : s.frameEnd.lnk.shifter with
  | none => rfl
  | some x => simp [not x shifter]

end

/-- A hearing station takes another's frame at once. -/
theorem State.taking_received_of_other {s : State} (h : s.hearing) {n : Station} (other : n ≠ s.own)
    (isThis : Payload → Bool) (f : State → State) :
    s.taking (fun t => t.received (nodeOf n) isThis f) = .next (f s.frameEnd) := by
  have numbers : (nodeOf n).toNat ≠ s.own.toNat := by
    rw [toNat_nodeOf]
    exact fun same => other (BitVec.eq_of_toNat_eq same)
  rw [State.taking_of_ready h.1, State.received_of_other h.2 numbers]

/-- A hearing station takes its own frame, which its shifter holds, at once. -/
theorem State.taking_received_of_sent {s : State} (h : s.hearing) {isThis : Payload → Bool} {x : Shifter}
    (shifter : s.lnk.shifter = some x) (this : isThis x.payload = true) (f : State → State) :
    s.taking (fun t => t.received (nodeOf s.own) isThis f)
      = .next (f (s.setLnk { s.lnk.frameEnded with shifter := none })) := by
  rw [State.taking_of_ready h.1, State.received_of_sent h.2 (toNat_nodeOf s.own) shifter this]

/-- A record replaced by itself. -/
@[simp] theorem Ptb.setPeer_self (p : Ptb) (n : Station) : p.setPeer n (p.peer n) = p := by
  simp [Ptb.setPeer, Ptb.peer]

/-! ### A peer's trip or loss -/

section
variable {s : State} {n : Station} {c : TripCause} {w : WithdrawReason}

/-- Outside an open barrier that the station is of, JNT does nothing (R136). -/
theorem State.maskedTrouble_of_outside (h : s.jnt.gate ≠ .opened ∨ maskHas s.jnt.mask n = false) :
    s.maskedTrouble n w = s := by
  obtain h | h := h <;> simp [State.maskedTrouble, h]

theorem State.peerTrouble_of_outside (h : s.jnt.gate ≠ .opened ∨ maskHas s.jnt.mask n = false) :
    s.peerTrouble n c w = s.applyPolicy c := by
  rw [State.peerTrouble, State.maskedTrouble_of_outside h]
  obtain h | h := h <;> simp [h]

theorem State.peerEventExcluded_iff : s.peerEventExcluded = true ↔
    s.seq.state = .tripped ∨ s.seq.state = .faulted ∨ (s.seq.state = .idle ∧ s.syn.out = .dark) := by
  simp [State.peerEventExcluded, or_assoc]

theorem State.applyPolicy_of_excluded (h : s.peerEventExcluded = true) : s.applyPolicy c = s := by
  simp [State.applyPolicy, h]

theorem State.applyPolicy_of_ignore (h : s.policyInForce = .ignore) : s.applyPolicy c = s := by
  simp [State.applyPolicy, h]

theorem State.applyPolicy_of_follow (h : ¬ s.peerEventExcluded = true) (policy : s.policyInForce = .follow) :
    s.applyPolicy c = s.trip c := by
  simp [State.applyPolicy, h, policy]

theorem State.applyPolicy_of_hold (h : ¬ s.peerEventExcluded = true) (policy : s.policyInForce = .hold) :
    s.applyPolicy c = s.freeze := by
  simp [State.applyPolicy, h, policy]

theorem State.freeze_of_active (h : s.seq.state = .active) :
    s.freeze = (s.setSeq { s.seq with state := .frozen }).offerStatus .freeze := by
  simp [State.freeze, h]

theorem State.freeze_of_not_active (h : s.seq.state ≠ .active) : s.freeze = s := by
  simp [State.freeze, h]

theorem State.thaw_of_frozen (h : s.seq.state = .frozen) (calm : s.troubled = false) :
    s.thaw = (s.setSeq { s.seq with state := .active }).offerStatus .thaw := by
  simp [State.thaw, h, calm]

theorem State.thaw_of_not_frozen (h : s.seq.state ≠ .frozen) : s.thaw = s := by
  simp [State.thaw, h]

theorem State.troubled_eq_false_iff :
    s.troubled = false ↔ ∀ m, m ≠ s.own → (s.ptb.peer m).tripped = false ∧ (s.ptb.peer m).state ≠ .lost := by
  simp [State.troubled, PeerRecord.troubled, mem_stations]

/-- The state with another record of one station: the record is that, and every other stands. -/
theorem State.troubled_setPeer (r : PeerRecord) :
    (s.setPtb (s.ptb.setPeer n r)).troubled = true ↔
      (n ≠ s.own ∧ (r.tripped = true ∨ r.state = .lost))
        ∨ ∃ m, m ≠ s.own ∧ m ≠ n ∧ ((s.ptb.peer m).tripped = true ∨ (s.ptb.peer m).state = .lost) := by
  rw [State.troubled_iff]
  constructor
  · rintro ⟨m, other, troubled⟩
    by_cases same : m = n
    · subst same
      exact .inl ⟨other, by simpa using troubled⟩
    · exact .inr ⟨m, other, same, by simpa [Ptb.peer_setPeer_ne _ _ same] using troubled⟩
  · rintro (⟨other, troubled⟩ | ⟨m, other, same, troubled⟩)
    · exact ⟨n, other, by simpa using troubled⟩
    · exact ⟨m, other, by simpa [Ptb.peer_setPeer_ne _ _ same] using troubled⟩

/-- A record that shows no change of presence or trip is stored, and no more (R121). -/
theorem State.updatePeer_of_same {r : PeerRecord} (state : r.state = (s.ptb.peer n).state)
    (tripped : r.tripped = (s.ptb.peer n).tripped) : s.updatePeer n r = s.setPtb (s.ptb.setPeer n r) := by
  simp [State.updatePeer, state, tripped]

/-- A record that shows a trip and no loss: a new trip is the peer's trouble, an old one is none (R121, R154). -/
theorem State.updatePeer_of_tripped {r : PeerRecord} (other : n ≠ s.own) (tripped : r.tripped = true)
    (state : r.state = (s.ptb.peer n).state ∨ r.state = .present) :
    s.updatePeer n r
      = if (s.ptb.peer n).tripped = true then s.setPtb (s.ptb.setPeer n r)
        else (s.setPtb (s.ptb.setPeer n r)).peerTrouble n .followed .peerTrip := by
  have stays : (s.setPtb (s.ptb.setPeer n r)).thaw = s.setPtb (s.ptb.setPeer n r) :=
    State.thaw_of_troubled ((State.troubled_setPeer r).2 (.inl ⟨other, .inl tripped⟩))
  cases old : (s.ptb.peer n).tripped with
  | false => simp [State.updatePeer, old, tripped, stays, other]
  | true =>
    have noLoss : ¬ (r.state = .lost ∧ (s.ptb.peer n).state ≠ .lost) := by
      rintro ⟨lost, before⟩
      obtain same | present := state
      · exact before (same ▸ lost)
      · rw [present] at lost
        exact nomatch lost
    simp [State.updatePeer, old, tripped, stays, other, noLoss]

/-- A record whose change shows no trouble: SEQ may leave FROZEN, and nothing else is made of it (R89, R121). -/
theorem State.updatePeer_of_calmed {r : PeerRecord} (tripped : r.tripped = false)
    (state : r.state = (s.ptb.peer n).state ∨ r.state = .present)
    (changed : ¬ ((s.ptb.peer n).state = r.state ∧ (s.ptb.peer n).tripped = r.tripped)) :
    s.updatePeer n r = (s.setPtb (s.ptb.setPeer n r)).thaw := by
  have noLoss : ¬ (r.state = .lost ∧ (s.ptb.peer n).state ≠ .lost) := by
    rintro ⟨lost, before⟩
    obtain same | present := state
    · exact before (same ▸ lost)
    · rw [present] at lost
      exact nomatch lost
  have changes : ¬ ((s.ptb.peer n).state = r.state && (s.ptb.peer n).tripped = r.tripped) = true := by
    simpa using changed
  rw [State.updatePeer, if_neg changes]
  simp [tripped, noLoss]

/-- A record of the station's own number: SEQ may leave FROZEN, and no block else takes it up (R121, R154). -/
theorem State.updatePeer_own (r : PeerRecord) :
    s.updatePeer s.own r = s.setPtb (s.ptb.setPeer s.own r)
      ∨ s.updatePeer s.own r = (s.setPtb (s.ptb.setPeer s.own r)).thaw := by
  simp only [State.updatePeer, if_true]
  split
  · exact .inl rfl
  · exact .inr rfl

end

/-! ### O34 -/

/-- A frame that shows a trip of its sender: TRIP, or a MARK that carries TRIPPED (R118, R120). -/
theorem exec_of_tripShown {s : State} {n : Station} {c : Instr} (h : s.hearing) (other : n ≠ s.own)
    (shows : (∃ cause slot, c = .tripReceived n cause slot)
      ∨ ∃ m : MarkFields, c = .markReceived n m ∧ m.seq = .tripped) :
    ∃ r, exec c s = .next (s.frameEnd.updatePeer n r) ∧ r.tripped = true
      ∧ (r.state = (s.ptb.peer n).state ∨ r.state = .present) := by
  obtain ⟨cause, slot, rfl⟩ | ⟨m, rfl, tripped⟩ := shows
  · refine ⟨{ s.ptb.peer n with tripped := true }, ?_, rfl, .inl rfl⟩
    rw [exec_tripReceived, State.taking_received_of_other h other]
    rfl
  · refine ⟨s.markRecord n m, ?_, ?_, .inr ?_⟩
    · rw [exec_markReceived, State.taking_received_of_other h other]
      rfl
    · simp [State.markRecord, tripped]
    · simp only [State.markRecord, other, if_false]
      split <;> rfl

/-- A trip shown again, or to a station that FTU's peer events pass by and that gathers nowhere, is a record and no
more (R121, R154). -/
theorem State.updatePeer_of_unheeded {u : State} {n : Station} {r : PeerRecord} (other : n ≠ u.own)
    (tripped : r.tripped = true) (state : r.state = (u.ptb.peer n).state ∨ r.state = .present)
    (unheeded : (u.ptb.peer n).tripped = true ∨ (u.jnt.gate = .idle ∧ u.peerEventExcluded = true)) :
    u.updatePeer n r = u.setPtb (u.ptb.setPeer n r) := by
  rw [State.updatePeer_of_tripped other tripped state]
  split
  · rfl
  · next new =>
    obtain old | ⟨gate, excluded⟩ := unheeded
    · exact absurd old new
    · rw [State.peerTrouble_of_outside (.inl (by rw [State.setPtb_jnt, gate]; nofun))]
      exact State.applyPolicy_of_excluded excluded

/-- A new trip, at a station that gathers nowhere, is the policy's (R121, R154). -/
theorem State.updatePeer_of_heeded {u : State} {n : Station} {r : PeerRecord} (other : n ≠ u.own)
    (tripped : r.tripped = true) (state : r.state = (u.ptb.peer n).state ∨ r.state = .present)
    (new : (u.ptb.peer n).tripped = false) (gate : u.jnt.gate = .idle) :
    u.updatePeer n r = (u.setPtb (u.ptb.setPeer n r)).applyPolicy .followed := by
  rw [State.updatePeer_of_tripped other tripped state, if_neg (by simp [new]),
    State.peerTrouble_of_outside (.inl (by rw [State.setPtb_jnt, gate]; nofun))]

theorem State.onlyChanges_frameEnd_setPtb (s : State) (p : Ptb) : s.onlyChanges (s.frameEnd.setPtb p) [.ptb, .lnk] := by
  simp [State.onlyChanges_iff, State.frameEnd_eq]

/-- A frozen step: the state of SEQ and the STATUS, with the record that froze it (R89). -/
theorem State.freeze_setPtb {s u : State} {heard : Lnk} {also : List Block} (stands : s.StandsFor u heard [] also)
    (active : s.seq.state = .active) :
    u.freeze.seq = { s.seq with state := .frozen } ∧ heard.offersNamed u.freeze.lnk [.status .freeze .frozen]
      ∧ s.onlyChanges u.freeze (.seq :: .lnk :: also) := by
  obtain ⟨stc, ctb, syn, ovl, pls, seq, jnt⟩ := stands.blocks
  have frame := State.onlyChanges_iff.1 stands.frame
  rw [State.freeze_of_active (by rw [seq]; exact active)]
  refine ⟨by simp [seq], ?_, ?_⟩
  · exact Lnk.offersNamed.status (s := u.setSeq { u.seq with state := .frozen }) stands.offered rfl
  · rw [State.onlyChanges_iff]
    simpa [stc, ctb, syn, ovl, pls, jnt] using frame.2.2.2.2.2.2.2.2

/-- Settles O34. -/
theorem tripReceivedFollowsThePolicy : Obligations.TripReceivedFollowsThePolicy := by
  unfold Obligations.TripReceivedFollowsThePolicy
  refine ⟨fun s n cause slot h other => ?_, fun s n c h other shows unheeded => ?_,
    fun s n c h other shows new gate heeds => ?_⟩
  · refine ⟨s.frameEnd.updatePeer n { s.ptb.peer n with tripped := true }, ?_, ?_, ?_, ?_, ?_⟩
    · rw [exec_tripReceived, State.taking_received_of_other h other]
      rfl
    · simp
    · intro m hm
      rw [State.updatePeer_ptb, Ptb.peer_setPeer_ne _ _ hm]
      rfl
    · intro stopped idle
      have excluded : s.frameEnd.peerEventExcluded = true := State.peerEventExcluded_iff.2 (by tauto)
      have stays := State.updatePeer_of_unheeded (u := s.frameEnd) (r := { s.ptb.peer n with tripped := true }) other
        rfl (.inl rfl) (.inr ⟨idle, excluded⟩)
      rw [stays]
      exact ⟨s.onlyChanges_frameEnd_setPtb _, rfl⟩
    · intro old
      have same : { s.ptb.peer n with tripped := true } = s.ptb.peer n := by rw [← old]
      rw [same, State.updatePeer_ptb]
      exact Ptb.setPeer_self _ _
  · obtain ⟨r, runs, tripped, state⟩ := exec_of_tripShown h other shows
    have stays : s.frameEnd.updatePeer n r = s.frameEnd.setPtb (s.ptb.setPeer n r) := by
      refine State.updatePeer_of_unheeded other tripped state (unheeded.imp id fun ⟨gate, excluded⟩ => ?_)
      exact ⟨gate, State.peerEventExcluded_iff.2 excluded⟩
    refine ⟨_, runs, ?_, ?_, ?_, ?_⟩
    · simp [tripped]
    · intro m hm
      rw [State.updatePeer_ptb, Ptb.peer_setPeer_ne _ _ hm]
      rfl
    · rw [stays]
      rfl
    · rw [stays]
      exact s.onlyChanges_frameEnd_setPtb _
  · obtain ⟨r, runs, tripped, state⟩ := exec_of_tripShown h other shows
    have policy : s.frameEnd.updatePeer n r = (s.frameEnd.setPtb (s.ptb.setPeer n r)).applyPolicy .followed :=
      State.updatePeer_of_heeded other tripped state new gate
    have stands : ∀ also, .ptb ∈ also → also ⊆ [Block.ptb, .ftu, .lck, .fbm] →
        s.StandsFor (s.frameEnd.setPtb (s.ptb.setPeer n r)) s.lnk.frameEnded [] also := fun also inside apart =>
      (State.StandsFor.setLnk s s.lnk.frameEnded apart).setPtb _ inside
    have heeded : ¬ (s.frameEnd.setPtb (s.ptb.setPeer n r)).peerEventExcluded = true :=
      fun excluded => heeds (State.peerEventExcluded_iff.1 excluded)
    refine ⟨_, runs, by simp [tripped], ?_, ?_, ?_, ?_⟩ <;> rw [policy]
    · intro follow
      rw [State.applyPolicy_of_follow heeded follow]
      exact ⟨(stands [.ftu, .ptb] (by simp) (by simp)).tripsTo (by tauto) (by tauto) .followed,
        State.trip_ftu_of_runs (s := s.frameEnd.setPtb (s.ptb.setPeer n r)) (by tauto) (by tauto) .followed⟩
    · intro hold active
      rw [State.applyPolicy_of_hold heeded hold]
      obtain ⟨seq, offered, frame⟩ := State.freeze_setPtb (stands [.ptb] (by simp) (by simp)) active
      exact ⟨seq, frame.mono (by simp), offered⟩
    · intro hold inactive
      rw [State.applyPolicy_of_hold heeded hold,
        State.freeze_of_not_active (s := s.frameEnd.setPtb (s.ptb.setPeer n r)) inactive]
      exact ⟨s.onlyChanges_frameEnd_setPtb _, rfl⟩
    · intro ignore
      rw [State.applyPolicy_of_ignore (s := s.frameEnd.setPtb (s.ptb.setPeer n r)) ignore]
      exact ⟨s.onlyChanges_frameEnd_setPtb _, rfl⟩

end Sys2Proof.Machine
end

section
/-! PROOFS. What a STATUS, a MARK and a frame of the station's own number make of the records and of SEQ: O35, O36 and
O37. -/

namespace Sys2Proof.Machine

/-! ### A thaw -/

/-- A thawed step: the state of SEQ and the STATUS (R89). -/
theorem State.thaw_standsFor {s u : State} {heard : Lnk} {also : List Block} (stands : s.StandsFor u heard [] also)
    (frozen : s.seq.state = .frozen) (calm : u.troubled = false) :
    u.thaw.seq = { s.seq with state := .active } ∧ heard.offersNamed u.thaw.lnk [.status .thaw .active]
      ∧ s.onlyChanges u.thaw (.seq :: .lnk :: also) := by
  obtain ⟨stc, ctb, syn, ovl, pls, seq, jnt⟩ := stands.blocks
  have frame := State.onlyChanges_iff.1 stands.frame
  rw [State.thaw_of_frozen (by rw [seq]; exact frozen) calm]
  refine ⟨by simp [seq], ?_, ?_⟩
  · exact Lnk.offersNamed.status (s := u.setSeq { u.seq with state := .active }) stands.offered rfl
  · rw [State.onlyChanges_iff]
    simpa [stc, ctb, syn, ovl, pls, jnt] using frame.2.2.2.2.2.2.2.2

/-- The record of the one peer in trouble, which shows none any more, thaws a FROZEN step (R89, R121). -/
theorem State.updatePeer_thaws {s : State} {n : Station} {r : PeerRecord} (frozen : s.seq.state = .frozen)
    (trouble : (s.ptb.peer n).tripped = true ∨ (s.ptb.peer n).state = .lost) (tripped : r.tripped = false)
    (state : r.state ≠ .lost ∧ (r.state = (s.ptb.peer n).state ∨ r.state = .present))
    (others : ∀ m, m ≠ s.own → m ≠ n → (s.ptb.peer m).tripped = false ∧ (s.ptb.peer m).state ≠ .lost) :
    (s.frameEnd.updatePeer n r).seq = { s.seq with state := .active }
      ∧ s.lnk.frameEnded.offersNamed (s.frameEnd.updatePeer n r).lnk [.status .thaw .active]
      ∧ s.onlyChanges (s.frameEnd.updatePeer n r) [.ptb, .seq, .lnk] := by
  have changed : ¬ ((s.ptb.peer n).state = r.state ∧ (s.ptb.peer n).tripped = r.tripped) := by
    rintro ⟨sameState, sameTrip⟩
    obtain old | lost := trouble
    · rw [sameTrip, tripped] at old
      exact nomatch old
    · exact state.1 (sameState ▸ lost)
  have calm : (s.frameEnd.setPtb (s.ptb.setPeer n r)).troubled = false := by
    rw [← Bool.not_eq_true]
    intro troubled
    obtain ⟨-, shows⟩ | ⟨m, other, same, shows⟩ := (State.troubled_setPeer (s := s.frameEnd) r).1 troubled
    · simp [tripped, state.1] at shows
    · obtain ⟨noTrip, noLoss⟩ := others m other same
      obtain trip | loss := shows
      · exact Bool.noConfusion (noTrip.symm.trans trip)
      · exact noLoss loss
  have thaws : s.frameEnd.updatePeer n r = (s.frameEnd.setPtb (s.ptb.setPeer n r)).thaw :=
    State.updatePeer_of_calmed tripped state.2 changed
  have stands : s.StandsFor (s.frameEnd.setPtb (s.ptb.setPeer n r)) s.lnk.frameEnded [] [.ptb] :=
    (State.StandsFor.setLnk s s.lnk.frameEnded (by simp)).setPtb _ (by simp)
  rw [thaws]
  obtain ⟨seq, offered, frame⟩ := State.thaw_standsFor stands frozen calm
  exact ⟨seq, offered, frame.mono (by simp)⟩

/-! ### O35 -/

theorem clearsTrip_iff {c : StatusCause} : clearsTrip c = true ↔ c = .start ∨ c = .clear ∨ c = .fault := by
  cases c <;> simp [clearsTrip]

/-- The record of a STATUS's sender, in the terms of the statements (R120). -/
theorem PeerRecord.afterStatus_eq (r : PeerRecord) (c : StatusCause) (q : SeqState) :
    r.afterStatus c q
      = { r with
          reported := q
          joinTag := if q = .gathering then r.joinTag else none
          tripped := if q ≠ .tripped ∧ (c = .start ∨ c = .clear ∨ c = .fault) then false else r.tripped } := by
  simp [PeerRecord.afterStatus, clearsTrip_iff]

theorem exec_statusReceived_of_other {s : State} (h : s.hearing) {n : Station} (other : n ≠ s.own) (c : StatusCause)
    (q : SeqState) :
    exec (.statusReceived n c q) s = .next (s.frameEnd.updatePeer n ((s.ptb.peer n).afterStatus c q)) := by
  rw [exec_statusReceived, State.taking_received_of_other h other]
  rfl

theorem State.updatePeer_frameEnd_peer_same (s : State) (n : Station) (r : PeerRecord) :
    (s.frameEnd.updatePeer n r).ptb.peer n = r := by
  simp

theorem State.updatePeer_frameEnd_peer_ne (s : State) {n m : Station} (r : PeerRecord) (h : m ≠ n) :
    (s.frameEnd.updatePeer n r).ptb.peer m = s.ptb.peer m := by
  rw [State.updatePeer_ptb, Ptb.peer_setPeer_ne _ _ h]
  rfl

/-- Settles O35. -/
theorem statusReceivedUpdatesAndThaws : Obligations.StatusReceivedUpdatesAndThaws := by
  unfold Obligations.StatusReceivedUpdatesAndThaws
  refine ⟨fun s n c q h other => ?_, fun s n c q h other frozen tripped present others untripped clears => ?_⟩
  · refine ⟨_, exec_statusReceived_of_other h other c q, fun m hm => s.updatePeer_frameEnd_peer_ne _ hm, ?_⟩
    rw [State.updatePeer_frameEnd_peer_same, PeerRecord.afterStatus_eq]
  · have cleared : ((s.ptb.peer n).afterStatus c q).tripped = false := by
      rw [PeerRecord.afterStatus_eq]
      simp [untripped]
      tauto
    obtain ⟨seq, offered, frame⟩ := State.updatePeer_thaws (r := (s.ptb.peer n).afterStatus c q) frozen (.inl tripped)
      cleared ⟨present, .inl rfl⟩ others
    refine ⟨_, exec_statusReceived_of_other h other c q, seq, ?_, offered, frame⟩
    rw [State.updatePeer_frameEnd_peer_same, cleared]

/-! ### O36 -/

theorem exec_markReceived_of_other {s : State} (h : s.hearing) {n : Station} (other : n ≠ s.own) (m : MarkFields) :
    exec (.markReceived n m) s = .next (s.frameEnd.updatePeer n (s.markRecord n m)) := by
  rw [exec_markReceived, State.taking_received_of_other h other]
  rfl

/-- The record of another station's MARK, but for the error (R118). -/
theorem State.markRecord_of_other {s : State} {n : Station} (other : n ≠ s.own) (m : MarkFields) :
    s.markRecord n m
      = { state := .present, age := 0, reported := m.seq, tripped := m.seq = .tripped
          joinTag := if m.seq = .gathering then (s.ptb.peer n).joinTag else none
          error := (s.markRecord n m).error, fresh := (s.markRecord n m).fresh } := by
  simp only [State.markRecord, other, if_false]
  split <;> rfl

/-- The error of an expected peer's MARK with no capture since its start bit (R119). -/
theorem State.markRecord_of_measured {s : State} {n : Station} (other : n ≠ s.own) (expected : n.toNat < s.count)
    (uncaptured : s.lnk.latch.captured = false) (m : MarkFields) :
    (s.markRecord n m).fresh = true ∧ (s.markRecord n m).error = markError s.lnk.latch m.age := by
  simp [State.markRecord, State.expectedPeer, other, expected, uncaptured]

/-- The error of a MARK that measures none is kept (R119). -/
theorem State.markRecord_of_unmeasured {s : State} {n : Station} (other : n ≠ s.own)
    (unmeasured : ¬ n.toNat < s.count ∨ s.lnk.latch.captured = true) (m : MarkFields) :
    (s.markRecord n m).fresh = (s.ptb.peer n).fresh ∧ (s.markRecord n m).error = (s.ptb.peer n).error := by
  obtain h | h := unmeasured <;> simp [State.markRecord, State.expectedPeer, other, h]

/-- Settles O36. -/
theorem markReceivedMeasuresThePeer : Obligations.MarkReceivedMeasuresThePeer := by
  unfold Obligations.MarkReceivedMeasuresThePeer
  refine ⟨fun s n m h other => ?_, fun s n m h other frozen trouble untripped others => ?_⟩
  · refine ⟨_, exec_markReceived_of_other h other m, fun k hk => s.updatePeer_frameEnd_peer_ne _ hk, ?_⟩
    rw [State.updatePeer_frameEnd_peer_same]
    refine ⟨?_, ?_, ?_, ?_, ?_, fun expected uncaptured => State.markRecord_of_measured other expected uncaptured m,
      fun unmeasured => State.markRecord_of_unmeasured other unmeasured m⟩ <;> rw [State.markRecord_of_other other]
    simp
  · have record := State.markRecord_of_other other m
    have tripped : (s.markRecord n m).tripped = false := by rw [record]; simpa using untripped
    have present : (s.markRecord n m).state = .present := by rw [record]
    obtain ⟨seq, offered, frame⟩ := State.updatePeer_thaws frozen trouble tripped
      ⟨by simp [present], .inr present⟩ others
    refine ⟨_, exec_markReceived_of_other h other m, seq, ?_, ?_, offered, frame⟩ <;>
      rwa [State.updatePeer_frameEnd_peer_same]

/-! ### O37 -/

section
variable {s : State}

/-- The record of the station's own MARK (R117, R118). -/
theorem State.markRecord_own (s : State) (m : MarkFields) :
    s.markRecord s.own m
      = { s.ptb.peer s.own with
          reported := m.seq, tripped := decide (m.seq = .tripped)
          joinTag := if m.seq = .gathering then (s.ptb.peer s.own).joinTag else none } := by
  simp [State.markRecord, State.expectedPeer]

/-- An own frame that updates the station's own record leaves the shifter empty; while SEQ is not FROZEN, or another
record shows trouble, nothing else changes (R89, R105). -/
theorem State.updatePeer_own_sent (r : PeerRecord) :
    let u := (s.setLnk { s.lnk.frameEnded with shifter := none }).updatePeer s.own r
    u.lnk.shifter = none ∧ u.ptb = s.ptb.setPeer s.own r
      ∧ ((s.seq.state ≠ .frozen ∨ ∃ n, n ≠ s.own ∧ ((s.ptb.peer n).tripped = true ∨ (s.ptb.peer n).state = .lost)) →
        u.lnk = { s.lnk.frameEnded with shifter := none } ∧ s.onlyChanges u [.ptb, .lnk]) := by
  intro u
  have stored : u = ((s.setLnk { s.lnk.frameEnded with shifter := none }).setPtb (s.ptb.setPeer s.own r))
      ∨ u = ((s.setLnk { s.lnk.frameEnded with shifter := none }).setPtb (s.ptb.setPeer s.own r)).thaw :=
    State.updatePeer_own (s := s.setLnk _) r
  have frame : s.onlyChanges ((s.setLnk { s.lnk.frameEnded with shifter := none }).setPtb (s.ptb.setPeer s.own r))
      [.ptb, .lnk] := by
    simp [State.onlyChanges_iff]
  refine ⟨?_, State.updatePeer_ptb _ _ _, fun still => ?_⟩
  · obtain h | h := stored <;> rw [h]
    · rfl
    · unfold State.thaw
      split
      · rw [State.offerStatus_lnk, Lnk.offer_shifter]
        rfl
      · rfl
  · have thawless : ((s.setLnk { s.lnk.frameEnded with shifter := none }).setPtb (s.ptb.setPeer s.own r)).thaw
        = (s.setLnk { s.lnk.frameEnded with shifter := none }).setPtb (s.ptb.setPeer s.own r) := by
      obtain notFrozen | ⟨n, other, trouble⟩ := still
      · exact State.thaw_of_not_frozen notFrozen
      · exact State.thaw_of_troubled ((State.troubled_setPeer (s := s.setLnk _) r).2 (.inr ⟨n, other, other, trouble⟩))
    have kept : u = (s.setLnk { s.lnk.frameEnded with shifter := none }).setPtb (s.ptb.setPeer s.own r) := by
      obtain h | h := stored
      · exact h
      · exact h.trans thawless
    rw [kept]
    exact ⟨rfl, frame⟩

/-- A frame of the station's number that its shifter does not hold is a duplicate number (R99). -/
theorem exec_of_duplicate {c : Instr} (h : s.hearing) (sender : c.stationFrom = some s.own)
    (unsent : ∀ x, s.lnk.shifter = some x → x.payload.heard s.own ≠ c) :
    exec c s = .next (s.frameEnd.fault .duplicateNumber) := by
  have faults : ∀ (isThis : Payload → Bool) (f : State → State),
      (∀ p : Payload, isThis p = true → p.heard s.own = c) →
      s.taking (fun t => t.received (nodeOf s.own) isThis f) = .next (s.frameEnd.fault .duplicateNumber) := by
    intro isThis f told
    rw [State.taking_of_ready h.1, State.received_of_duplicate h.2 (toNat_nodeOf s.own)]
    intro x shifter
    by_contra this
    exact unsent x shifter (told _ (by simpa using this))
  cases c <;> simp only [Instr.stationFrom, Option.some.injEq, reduceCtorEq] at sender <;> subst sender
  case markReceived m =>
    rw [exec_markReceived]
    refine faults _ _ fun p this => ?_
    obtain rfl : p = .mark m := by simpa using this
    rfl
  case tripReceived cause slot =>
    rw [exec_tripReceived]
    refine faults _ _ fun p this => ?_
    obtain rfl : p = .trip cause slot := by simpa using this
    rfl
  case joinReceived tag mask =>
    rw [exec_joinReceived]
    refine faults _ _ fun p this => ?_
    obtain rfl : p = .join tag mask := by simpa using this
    rfl
  case withdrawReceived tag reason =>
    rw [exec_withdrawReceived]
    refine faults _ _ fun p this => ?_
    obtain rfl : p = .withdraw tag reason := by simpa using this
    rfl
  case statusReceived cause q =>
    rw [exec_statusReceived]
    refine faults _ _ fun p this => ?_
    cases p <;> simp [Payload.isStatus] at this
    simp [Payload.heard, this]
  case replyFrameReceived kind =>
    rw [exec_replyFrameReceived]
    refine faults _ _ fun p this => ?_
    cases p <;> simp [Payload.isReply] at this <;> simp [Payload.heard, this]

theorem State.faultsTo_frameEnd (unfaulted : s.seq.state ≠ .faulted) (c : FaultCause) :
    s.faultsTo (s.frameEnd.fault c) s.lnk.frameEnded c :=
  (State.StandsFor.setLnk s s.lnk.frameEnded (by simp)).faultsTo unfaulted c

end

/-- Settles O37. -/
theorem ownNumberAndUntakenFrames : Obligations.OwnNumberAndUntakenFrames := by
  unfold Obligations.OwnNumberAndUntakenFrames
  refine ⟨fun s x h shifter => ⟨fun m payload => ?_, fun cause slot payload => ?_, fun y payload => ?_,
    fun kind payload => ?_⟩, fun s c h sender unsent => ⟨fun unfaulted => ?_, fun faulted => ?_⟩,
    fun s h => ⟨fun n k other => ?_, fun n other => ?_, fun unfaulted => ?_⟩⟩
  · obtain ⟨empty, record, kept⟩ := s.updatePeer_own_sent (s.markRecord s.own m)
    refine ⟨_, ?_, empty, kept, by rw [record, State.markRecord_own]⟩
    rw [exec_markReceived, State.taking_received_of_sent h shifter (by simpa using payload)]
    rfl
  · obtain ⟨empty, record, kept⟩ := s.updatePeer_own_sent { s.ptb.peer s.own with tripped := true }
    refine ⟨_, ?_, empty, kept, record⟩
    rw [exec_tripReceived, State.taking_received_of_sent h shifter (by simpa using payload)]
    rfl
  · obtain ⟨empty, record, kept⟩ := s.updatePeer_own_sent ((s.ptb.peer s.own).afterStatus y.cause y.seq)
    refine ⟨_, ?_, empty, kept, by rw [record, PeerRecord.afterStatus_eq]⟩
    rw [exec_statusReceived, State.taking_received_of_sent h shifter (by simp [payload, Payload.isStatus])]
    rfl
  · have this : Payload.isReply kind x.payload = true := by
      obtain ⟨slot, live, o, payload, rfl⟩ | ⟨k, first, code, payload, rfl⟩ | ⟨slot, r, payload, rfl⟩ := payload <;>
        rw [payload] <;> rfl
    rw [exec_replyFrameReceived, State.taking_received_of_sent h shifter this]
    rfl
  · exact ⟨_, exec_of_duplicate h sender unsent, State.faultsTo_frameEnd unfaulted _⟩
  · rw [exec_of_duplicate h sender unsent, State.fault_of_faulted (by exact faulted)]
    rfl
  · rw [exec_replyFrameReceived, State.taking_received_of_other h other]
    rfl
  · rw [exec_ignoredFrameReceived, State.taking_of_ready h.1, State.received_of_other h.2 other]
    rfl
  · have own : (s.own.setWidth 4).toNat = s.own.toNat := toNat_nodeOf s.own
    refine ⟨_, ?_, State.faultsTo_frameEnd unfaulted _⟩
    rw [exec_ignoredFrameReceived, State.taking_of_ready h.1,
      State.received_of_duplicate h.2 own fun _ _ => rfl]

end Sys2Proof.Machine
end

section
/-! PROOFS. The Joint Gate: completion, abandonment, the timeout and a masked peer's trouble (O38, O39, O40), and a
peer's loss (O33). -/

namespace Sys2Proof.Machine

/-! ### A frame heard from another station or sent by the station itself -/

/-- LNK once it has heard a frame, which its shifter held if the station sent it (R95, R105). -/
def Lnk.heardFrom (l : Lnk) (own : Bool) : Lnk := if own then { l.frameEnded with shifter := none } else l.frameEnded

/-- A hearing station takes a frame at once: another's, or its own that its shifter holds. -/
theorem State.taking_received_of_heard {s : State} (h : s.hearing) {n : Station} {isThis : Payload → Bool}
    (sent : n = s.own → ∃ x, s.lnk.shifter = some x ∧ isThis x.payload = true) (f : State → State) :
    s.taking (fun t => t.received (nodeOf n) isThis f) = .next (f (s.setLnk (s.lnk.heardFrom (n = s.own)))) := by
  by_cases own : n = s.own
  · obtain ⟨x, shifter, this⟩ := sent own
    rw [own, State.taking_received_of_sent h shifter this]
    simp [Lnk.heardFrom]
  · rw [State.taking_received_of_other h own]
    simp [Lnk.heardFrom, own, State.frameEnd_eq]

/-! ### O38 -/

section
variable {s : State}

theorem State.allJoined_iff :
    s.allJoined = true ↔ ∀ m, maskHas s.jnt.mask m = true → (s.ptb.peer m).joinTag = some s.jnt.tag := by
  simp only [State.allJoined, List.all_eq_true, mem_stations, true_implies, Bool.or_eq_true, Bool.not_eq_true',
    decide_eq_true_eq]
  exact forall_congr' fun m => by cases maskHas s.jnt.mask m <;> simp

/-- The completion test with the gate OPEN or WITHDRAWING (R130). -/
theorem State.testBarrier_of_open (gate : s.jnt.gate = .opened ∨ s.jnt.gate = .withdrawing) (n : Station) (tag : Tag) :
    s.testBarrier n tag
      = let u := s.setJnt { s.jnt with ownJoin := s.jnt.ownJoin || (n = s.own && tag = s.jnt.tag) }
        if u.jnt.ownJoin && u.allJoined then u.completeBarrier else u := by
  have tests : (s.jnt.gate = .opened || s.jnt.gate = .withdrawing) = true := by simpa using gate
  have same : (if n = s.own && tag = s.jnt.tag then s.setJnt { s.jnt with ownJoin := true } else s)
      = s.setJnt { s.jnt with ownJoin := s.jnt.ownJoin || (n = s.own && tag = s.jnt.tag) } := by
    cases (n = s.own && tag = s.jnt.tag : Bool)
    · simp
      rfl
    · simp
  rw [State.testBarrier, if_pos (by simpa using gate)]
  simp only [same]

theorem State.testBarrier_of_shut (gate : s.jnt.gate = .idle ∨ s.jnt.gate = .complete) (n : Station) (tag : Tag) :
    s.testBarrier n tag = s := by
  obtain gate | gate := gate <;> simp [State.testBarrier, gate]

/-- A completed barrier (R131). -/
theorem State.completeBarrier_eq (s : State) :
    s.completeBarrier
      = (s.setLnk (match s.jnt.withdrawRef with
          | some r => s.lnk.remove (Payload.isWithdraw s.jnt.tag r)
          | none => s.lnk)).setJnt { s.jnt with gate := .complete, angleTest := false } := by
  unfold State.completeBarrier
  cases s.jnt.withdrawRef <;> rfl

end

section
variable {s : State} {heard : Lnk} {p : Ptb} {n : Station} {tag : Tag}

/-- The station's own join, after a JOIN (R130). -/
def Jnt.joinedBy (j : Jnt) (own : Bool) (tag : Tag) : Bool := j.ownJoin || (own && tag = j.tag)

/-- A JOIN heard while the gate is OPEN or WITHDRAWING, and that completes the barrier (R130, R131). -/
theorem State.testBarrier_completes (gate : s.jnt.gate = .opened ∨ s.jnt.gate = .withdrawing)
    (own : s.jnt.joinedBy (n = s.own) tag = true)
    (all : ∀ m, maskHas s.jnt.mask m = true → (s.ptb.peer m).joinTag = some s.jnt.tag) :
    s.testBarrier n tag
      = (s.setLnk (match s.jnt.withdrawRef with
          | some r => s.lnk.remove (Payload.isWithdraw s.jnt.tag r)
          | none => s.lnk)).setJnt { s.jnt with gate := .complete, ownJoin := true, angleTest := false } := by
  have joined : (s.jnt.ownJoin || (n = s.own && tag = s.jnt.tag)) = true := own
  have allJoined : (s.setJnt { s.jnt with ownJoin := true }).allJoined = true := State.allJoined_iff.2 all
  rw [State.testBarrier_of_open gate, joined]
  simp only [allJoined, State.setJnt_jnt, Bool.and_self, if_true]
  exact State.completeBarrier_eq _

/-- A JOIN heard while the gate is OPEN or WITHDRAWING, and that leaves the barrier incomplete (R130). -/
theorem State.testBarrier_waits (gate : s.jnt.gate = .opened ∨ s.jnt.gate = .withdrawing)
    (incomplete : ¬ (s.jnt.joinedBy (n = s.own) tag = true
      ∧ ∀ m, maskHas s.jnt.mask m = true → (s.ptb.peer m).joinTag = some s.jnt.tag)) :
    s.testBarrier n tag = s.setJnt { s.jnt with ownJoin := s.jnt.joinedBy (n = s.own) tag } := by
  have waits : ¬ (s.jnt.joinedBy (n = s.own) tag
      && (s.setJnt { s.jnt with ownJoin := s.jnt.joinedBy (n = s.own) tag }).allJoined) = true := by
    rw [Bool.and_eq_true, State.allJoined_iff]
    exact incomplete
  rw [State.testBarrier_of_open gate]
  exact if_neg waits

theorem Jnt.joinedBy_iff (j : Jnt) {own : Prop} [Decidable own] (tag : Tag) :
    j.joinedBy own tag = true ↔ j.ownJoin = true ∨ (own ∧ tag = j.tag) := by
  simp [Jnt.joinedBy]

end

/-- Settles O38. -/
theorem joinCompletesTheBarrier : Obligations.JoinCompletesTheBarrier := by
  unfold Obligations.JoinCompletesTheBarrier
  intro s n tag mask h sent heard ownJoin
  have heardEq : heard = s.lnk.heardFrom (n = s.own) := by simp [heard, Lnk.heardFrom]
  obtain ⟨p, recorded⟩ : ∃ p, p = s.ptb.setPeer n { s.ptb.peer n with joinTag := some tag } := ⟨_, rfl⟩
  have runs : exec (.joinReceived n tag mask) s = .next (((s.setLnk heard).setPtb p).testBarrier n tag) := by
    rw [exec_joinReceived, State.taking_received_of_heard h (by simpa using sent), ← heardEq,
      State.updatePeer_of_same (by rfl) (by rfl), recorded]
    rfl
  have own : s.jnt.joinedBy (n = s.own) tag = true ↔ ownJoin := s.jnt.joinedBy_iff tag
  rw [← recorded]
  by_cases gate : s.jnt.gate = .opened ∨ s.jnt.gate = .withdrawing
  · have open' : ¬ (s.jnt.gate = .idle ∨ s.jnt.gate = .complete) := by
      obtain gate | gate := gate <;> simp [gate]
    by_cases all : s.jnt.joinedBy (n = s.own) tag = true
        ∧ ∀ m, maskHas s.jnt.mask m = true → (p.peer m).joinTag = some s.jnt.tag
    · rw [State.testBarrier_completes (s := (s.setLnk heard).setPtb p) gate all.1 all.2] at runs
      refine ⟨_, runs, rfl, ?_, fun _ => ⟨?_, ?_, fun _ => ⟨rfl, fun none => ?_, fun r some => ?_⟩, ?_⟩,
        fun shut => absurd shut open'⟩
      · simp [State.onlyChanges_iff]
      · exact ⟨fun _ => ⟨own.1 all.1, all.2⟩, fun _ => rfl⟩
      · exact ⟨fun _ => own.1 all.1, fun _ => rfl⟩
      · simp [none]
      · simp [some]
      · exact fun incomplete => absurd rfl incomplete
    · rw [State.testBarrier_waits (s := (s.setLnk heard).setPtb p) gate all] at runs
      have incomplete : s.jnt.gate ≠ .complete := by obtain gate | gate := gate <;> simp [gate]
      refine ⟨_, runs, rfl, ?_, fun _ => ⟨?_, own, fun complete => absurd complete incomplete, fun _ => ⟨rfl, rfl⟩⟩,
        fun shut => absurd shut open'⟩
      · simp [State.onlyChanges_iff]
      · refine ⟨fun complete => absurd complete incomplete, fun ⟨joined, tags⟩ => absurd ⟨own.2 joined, tags⟩ all⟩
  · have shut : s.jnt.gate = .idle ∨ s.jnt.gate = .complete := by
      cases gate' : s.jnt.gate <;> simp [gate'] at gate ⊢
    rw [State.testBarrier_of_shut (s := (s.setLnk heard).setPtb p) shut] at runs
    exact ⟨_, runs, rfl, by simp [State.onlyChanges_iff], fun opened => absurd opened gate, fun _ => ⟨rfl, rfl⟩⟩

/-! ### O39 -/

/-- A WITHDRAW that abandons no barrier (R134). -/
theorem State.heardWithdraw_of_other {s : State} {tag : Tag}
    (h : s.jnt.gate = .idle ∨ s.jnt.gate = .complete ∨ tag ≠ s.jnt.tag) : s.heardWithdraw tag = s := by
  obtain h | h | h := h <;> simp [State.heardWithdraw, h]

theorem State.heardWithdraw_of_open {s : State} (h : s.jnt.gate = .opened ∨ s.jnt.gate = .withdrawing) :
    s.heardWithdraw s.jnt.tag = s.abandon := by
  obtain h | h := h <;> simp [State.heardWithdraw, h]

/-- The abandonment of a step in hand: its write-back WITHDRAWN, SUSPENDED at the next slot (R135). -/
theorem State.abandon_of_image {s : State} {r : StepRecord} (image : s.seq.image = some r) :
    s.abandon.seq = { s.seq with state := .suspended, image := none, pointer := s.seq.nextSlot r }
      ∧ s.abandon.jnt = { s.jnt with gate := .idle }
      ∧ s.abandon.pls = s.pls.setSlot s.seq.pointer
          ((s.pls.slot s.seq.pointer).written false .withdrawn Pass.none)
      ∧ ((s.lnk.remove (Payload.isJoinFor s.jnt.tag)).remove (Payload.isWithdrawFor s.jnt.tag)).offersNamed
          s.abandon.lnk ((if r.notify then [.result s.seq.pointer false .withdrawn] else [])
            ++ [.status .withdrawn .suspended]) := by
  obtain ⟨l, removed⟩ : ∃ l, l = (s.lnk.remove (Payload.isJoinFor s.jnt.tag)).remove
    (Payload.isWithdrawFor s.jnt.tag) := ⟨_, rfl⟩
  have written := State.writeBack_offers (s.setLnk l) r .withdrawn false Pass.none
  have abandons : s.abandon = (((((s.setLnk l).writeBack r .withdrawn false Pass.none).pointToNext r).setSeq
      { (((s.setLnk l).writeBack r .withdrawn false Pass.none).pointToNext r).seq with
        state := .suspended, image := none }).offerStatus .withdrawn).setJnt { s.jnt with gate := .idle } := by
    simp [State.abandon, image, removed, State.pointToNext]
  rw [← removed, abandons]
  refine ⟨by simp [State.pointToNext], rfl, by simp [State.pointToNext], ?_⟩
  rw [State.setJnt_lnk]
  refine Lnk.offersNamed.status (q := .suspended) ?_ rfl
  exact written

/-- Settles O39. -/
theorem withdrawAbandonsTheBarrier : Obligations.WithdrawAbandonsTheBarrier := by
  unfold Obligations.WithdrawAbandonsTheBarrier
  intro s n tag reason h sent heard
  have heardEq : heard = s.lnk.heardFrom (n = s.own) := by simp [heard, Lnk.heardFrom]
  obtain ⟨p, recorded⟩ : ∃ p, p = s.ptb.setPeer n { s.ptb.peer n with joinTag := none } := ⟨_, rfl⟩
  have runs : exec (.withdrawReceived n tag reason) s = .next (((s.setLnk heard).setPtb p).heardWithdraw tag) := by
    rw [exec_withdrawReceived, State.taking_received_of_heard h (by simpa using sent), ← heardEq,
      State.updatePeer_of_same (by rfl) (by rfl), recorded]
    rfl
  rw [← recorded]
  by_cases abandons : (s.jnt.gate = .opened ∨ s.jnt.gate = .withdrawing) ∧ tag = s.jnt.tag
  · obtain ⟨gate, rfl⟩ := abandons
    have acts : ((s.setLnk heard).setPtb p).heardWithdraw s.jnt.tag = ((s.setLnk heard).setPtb p).abandon :=
      State.heardWithdraw_of_open (s := (s.setLnk heard).setPtb p) gate
    rw [acts] at runs
    refine ⟨_, runs, by simp, by simp, fun r _ _ image => ?_, fun not => ?_⟩
    · obtain ⟨seq, jnt, pls, offered⟩ := State.abandon_of_image (s := (s.setLnk heard).setPtb p) image
      exact ⟨seq, jnt, pls, offered, by simp [State.onlyChanges_iff]⟩
    · obtain gate | gate := gate <;> simp [gate] at not
  · have still : s.jnt.gate = .idle ∨ s.jnt.gate = .complete ∨ tag ≠ s.jnt.tag := by
      cases gate : s.jnt.gate <;> simp [gate] at abandons ⊢ <;> exact abandons
    rw [State.heardWithdraw_of_other (s := (s.setLnk heard).setPtb p) still] at runs
    refine ⟨_, runs, rfl, rfl, fun r gate same => absurd ⟨gate, same⟩ abandons, fun _ => ⟨?_, rfl⟩⟩
    simp [State.onlyChanges_iff]

end Sys2Proof.Machine
end

section
/-! PROOFS. The gather timeout and a masked peer's trouble (O40), and a peer's loss (O33). -/

namespace Sys2Proof.Machine

/-! ### Two reactions in either order -/

theorem State.eitherOrder_of_true {s : State} {f g : State → State} (h : Config.freeOrder s.freeCount = true) :
    s.eitherOrder f g = g (f s.countOrder) := if_pos h

theorem State.eitherOrder_of_false {s : State} {f g : State → State} (h : Config.freeOrder s.freeCount = false) :
    s.eitherOrder f g = f (g s.countOrder) := if_neg (by rw [h]; nofun)

/-- The policy in force is SEQ's, FTU's and STC's (R148). -/
theorem State.policyInForce_congr {s t : State} (seq : t.seq = s.seq) (ftu : t.ftu = s.ftu) (stc : t.stc = s.stc) :
    t.policyInForce = s.policyInForce := by
  unfold State.policyInForce State.inEffect
  rw [seq, ftu, stc]

/-! ### A withdrawal -/

section
variable {s : State}

/-- A withdrawal changes JNT and LNK (R133, R136). -/
theorem State.withdraw_eq (s : State) (w : WithdrawReason) :
    s.withdraw w
      = (s.setLnk ((s.lnk.remove (Payload.isJoinFor s.jnt.tag)).offer (.frame 15 (.withdraw s.jnt.tag w)))).setJnt
          { s.jnt with gate := .withdrawing, withdrawRef := some w } := rfl

theorem State.timeoutDue_iff :
    s.timeoutDue = true ↔ s.jnt.gate = .opened ∧ s.jnt.timeout ≤ (s.ctb.commonCycles - s.jnt.entry).toNat := by
  simp [State.timeoutDue]

theorem State.maskedTrouble_of_masked {n : Station} (gate : s.jnt.gate = .opened) (masked : maskHas s.jnt.mask n = true)
    (other : n ≠ s.own) (w : WithdrawReason) : s.maskedTrouble n w = s.withdraw w := by
  simp [State.maskedTrouble, gate, masked, other]

/-- Where FTU does not trip the station, JNT alone reacts (R136, R155). -/
theorem State.peerTrouble_of_mild {n : Station} (policy : s.policyInForce ≠ .follow) (c : TripCause)
    (w : WithdrawReason) : s.peerTrouble n c w = (s.maskedTrouble n w).applyPolicy c := by
  simp [State.peerTrouble, policy]

theorem State.applyPolicy_of_gathering (policy : s.policyInForce ≠ .follow) (state : s.seq.state = .gathering)
    (c : TripCause) : s.applyPolicy c = s := by
  unfold State.applyPolicy
  split
  · rfl
  · split
    · contradiction
    · exact State.freeze_of_not_active (by simp [state])
    · rfl

/-- SEQ lets go of a step that gathers: JNT removes its JOIN and offers WITHDRAW, its gate IDLE (R137). -/
theorem State.dropStep_of_leaving (state : s.seq.state = .gathering) (gate : s.jnt.gate ≠ .idle) (e : EndReason)
    (w : WithdrawReason) :
    s.dropStep e w
      = (s.setLnk ((s.lnk.remove (Payload.isJoinFor s.jnt.tag)).offer (.frame 15 (.withdraw s.jnt.tag w)))).setJnt
          { s.jnt with gate := .idle } := by
  rw [State.dropStep_of_gathering state, State.leaveGathering, if_neg gate]
  rfl

/-- A trip in GATHERING, with the gate not IDLE: TRIP, JNT's WITHDRAW, the fall and STATUS TRIP (R91, R137). -/
theorem State.trip_of_gathering (state : s.seq.state = .gathering) (gate : s.jnt.gate ≠ .idle) (c : TripCause) :
    (s.trip c).seq.state = .tripped ∧ (s.trip c).seq.pointer = s.seq.pointer ∧ (s.trip c).ftu.tripCause = some c
      ∧ (s.trip c).jnt.gate = .idle ∧ (s.trip c).pls = s.pls ∧ s.fallsTo (s.trip c)
      ∧ (((s.lnk.offer (.frame 15 (.trip c s.seq.pointer))).remove (Payload.isJoinFor s.jnt.tag)).offer
          (.frame 15 (.withdraw s.jnt.tag .ownTrip))).offersNamed (s.trip c).lnk [.status .trip .tripped] := by
  have tripped : s.seq.state ≠ .tripped := by simp [state]
  have faulted : s.seq.state ≠ .faulted := by simp [state]
  have drops := State.dropStep_of_leaving
    (s := (s.setFtu { s.ftu with tripCause := some c }).offerAll (.trip c s.seq.pointer)) state gate .tripped .ownTrip
  have stands := (State.StandsFor.refl s (also := [.ftu]) (by simp)).tripsTo tripped faulted c
  obtain ⟨falls, rested, -, -, -, -, -, -, -, -, -, gathers⟩ := stands
  obtain ⟨pointer, jnt, -, -⟩ := gathers state gate
  refine ⟨rested, pointer, by rw [State.trip_ftu_of_runs tripped faulted], by rw [jnt], ?_, falls, ?_⟩
  · rw [State.trip_eq tripped faulted]
    simp [State.letGoWith, drops]
  · rw [State.trip_eq tripped faulted]
    refine State.letGoWith_lnk _ _ _ _ _ _ (names := []) ?_
    rw [drops]
    exact Lnk.offersNamed_nil _

end

/-! ### O40 -/

/-- A peer's trouble in GATHERING, at a station whose record of the peer has changed: what JNT and FTU make of it
(R136, R155). -/
theorem State.peerTrouble_of_gathering {s v : State} {n : Station} {heard : Lnk} {p : Ptb} (c : TripCause)
    (w : WithdrawReason) (stored : v = (s.setLnk heard).setPtb p) (state : s.seq.state = .gathering)
    (other : n ≠ s.own) :
    let withdrawn (l : Lnk) (why : WithdrawReason) :=
      (l.remove (Payload.isJoinFor s.jnt.tag)).offer (.frame 15 (.withdraw s.jnt.tag why))
    let tripped (l : Lnk) := l.offer (.frame 15 (.trip c s.seq.pointer))
    let t := v.peerTrouble n c w
    (s.policyInForce ≠ .follow → s.jnt.gate = .opened → maskHas s.jnt.mask n = true →
        t.jnt = { s.jnt with gate := .withdrawing, withdrawRef := some w }
          ∧ t.lnk = withdrawn heard w ∧ s.onlyChanges t [.ptb, .jnt, .lnk])
      ∧ (s.policyInForce ≠ .follow → (s.jnt.gate ≠ .opened ∨ maskHas s.jnt.mask n = false) →
        t.lnk = heard ∧ s.onlyChanges t [.ptb, .lnk])
      ∧ (s.policyInForce = .follow → s.jnt.gate ≠ .idle →
        t.seq.state = .tripped ∧ t.seq.pointer = s.seq.pointer ∧ t.ftu.tripCause = some c
          ∧ t.jnt.gate = .idle ∧ t.pls = s.pls ∧ s.fallsTo t
          ∧ (s.jnt.gate = .opened → maskHas s.jnt.mask n = true → Config.freeOrder s.freeCount = true →
              (withdrawn (tripped (withdrawn heard w)) .ownTrip).offersNamed t.lnk [.status .trip .tripped])
          ∧ ((s.jnt.gate ≠ .opened ∨ maskHas s.jnt.mask n = false ∨ Config.freeOrder s.freeCount = false) →
              (withdrawn (tripped heard) .ownTrip).offersNamed t.lnk [.status .trip .tripped])) := by
  intro withdrawn tripped t
  subst stored
  have unexcluded : ∀ u : State, u.seq = s.seq → ¬ u.peerEventExcluded = true := by
    intro u seq
    rw [State.peerEventExcluded_iff, seq, state]
    simp
  refine ⟨fun mild gate masked => ?_, fun mild outside => ?_, fun follow gate => ?_⟩
  · have reacts : t = ((s.setLnk heard).setPtb p).withdraw w := by
      have withdraws : ((s.setLnk heard).setPtb p).maskedTrouble n w = ((s.setLnk heard).setPtb p).withdraw w :=
        State.maskedTrouble_of_masked (s := (s.setLnk heard).setPtb p) gate masked other w
      simp only [t, State.peerTrouble_of_mild (s := (s.setLnk heard).setPtb p) mild, withdraws]
      exact State.applyPolicy_of_gathering (s := ((s.setLnk heard).setPtb p).withdraw w) mild state c
    rw [reacts]
    exact ⟨rfl, rfl, by simp [State.onlyChanges_iff]⟩
  · have reacts : t = (s.setLnk heard).setPtb p := by
      simp only [t, State.peerTrouble_of_outside (s := (s.setLnk heard).setPtb p) outside]
      exact State.applyPolicy_of_gathering (s := (s.setLnk heard).setPtb p) mild state c
    rw [reacts]
    exact ⟨rfl, by simp [State.onlyChanges_iff]⟩
  · have trips : ∀ (l : Lnk) (k : Nat) (j : Jnt), j.gate ≠ .idle → j.tag = s.jnt.tag →
        let u := ((((s.setLnk l).setPtb p).setFreeCount k).setJnt j).trip c
        u.seq.state = .tripped ∧ u.seq.pointer = s.seq.pointer ∧ u.ftu.tripCause = some c ∧ u.jnt.gate = .idle
          ∧ u.pls = s.pls ∧ s.fallsTo u ∧ (withdrawn (tripped l) .ownTrip).offersNamed u.lnk [.status .trip .tripped] := by
      intro l k j open' tag
      have result := State.trip_of_gathering (s := (((s.setLnk l).setPtb p).setFreeCount k).setJnt j) state open' c
      rw [State.setJnt_jnt, tag] at result
      exact result
    by_cases both : s.jnt.gate = .opened ∧ maskHas s.jnt.mask n = true
    · obtain ⟨opened, masked⟩ := both
      have drawn : t = ((s.setLnk heard).setPtb p).eitherOrder (·.maskedTrouble n w) (·.applyPolicy c) := by
        simp [t, State.peerTrouble, opened, masked, unexcluded ((s.setLnk heard).setPtb p) rfl]
        exact fun policy => absurd follow policy
      have policy : ∀ u : State, u.seq = s.seq → u.ftu = s.ftu → u.stc = s.stc → u.applyPolicy c = u.trip c :=
        fun u seq ftu stc => State.applyPolicy_of_follow (unexcluded u seq)
          ((State.policyInForce_congr seq ftu stc).trans follow)
      cases order : Config.freeOrder s.freeCount
      · have same : ((s.setLnk heard).setPtb p).countOrder
            = (((s.setLnk heard).setPtb p).setFreeCount (s.freeCount + 1)).setJnt s.jnt := rfl
        obtain ⟨tripped, pointer, cause, idle, pls, falls, offered⟩ := trips heard (s.freeCount + 1) s.jnt gate rfl
        rw [← same] at tripped pointer cause idle pls falls offered
        have last : t = ((s.setLnk heard).setPtb p).countOrder.trip c := by
          rw [drawn, State.eitherOrder_of_false (s := (s.setLnk heard).setPtb p) order,
            policy ((s.setLnk heard).setPtb p).countOrder rfl rfl rfl]
          exact State.maskedTrouble_of_outside (.inl (by rw [idle]; nofun))
        rw [last]
        exact ⟨tripped, pointer, cause, idle, pls, falls, fun _ _ drawnFirst => Bool.noConfusion drawnFirst,
          fun _ => offered⟩
      · have same : ((s.setLnk heard).setPtb p).countOrder.withdraw w
            = (((s.setLnk (withdrawn heard w)).setPtb p).setFreeCount (s.freeCount + 1)).setJnt
                { s.jnt with gate := .withdrawing, withdrawRef := some w } := rfl
        obtain ⟨tripped, pointer, cause, idle, pls, falls, offered⟩ := trips (withdrawn heard w) (s.freeCount + 1)
          { s.jnt with gate := .withdrawing, withdrawRef := some w } (by simp) rfl
        rw [← same] at tripped pointer cause idle pls falls offered
        have withdraws : ((s.setLnk heard).setPtb p).countOrder.maskedTrouble n w
            = ((s.setLnk heard).setPtb p).countOrder.withdraw w :=
          State.maskedTrouble_of_masked (s := ((s.setLnk heard).setPtb p).countOrder) opened masked other w
        have last : t = (((s.setLnk heard).setPtb p).countOrder.withdraw w).trip c := by
          rw [drawn, State.eitherOrder_of_true (s := (s.setLnk heard).setPtb p) order, withdraws,
            policy (((s.setLnk heard).setPtb p).countOrder.withdraw w) (by simp) (by simp) (by simp)]
        rw [last]
        refine ⟨tripped, pointer, cause, idle, pls, falls, fun _ _ _ => offered, fun notDrawn => ?_⟩
        simp [opened, masked] at notDrawn
    · have outside : s.jnt.gate ≠ .opened ∨ maskHas s.jnt.mask n = false := by
        rw [← Bool.not_eq_true]
        exact not_and_or.1 both
      have alone : t = ((s.setLnk heard).setPtb p).trip c := by
        simp only [t, State.peerTrouble_of_outside (s := (s.setLnk heard).setPtb p) outside]
        exact State.applyPolicy_of_follow (unexcluded _ rfl) follow
      have same : (s.setLnk heard).setPtb p =
          (((s.setLnk heard).setPtb p).setFreeCount s.freeCount).setJnt s.jnt := rfl
      obtain ⟨tripped, pointer, cause, idle, pls, falls, offered⟩ := trips heard s.freeCount s.jnt gate rfl
      rw [← same] at tripped pointer cause idle pls falls offered
      rw [alone]
      exact ⟨tripped, pointer, cause, idle, pls, falls, fun opened masked => absurd ⟨opened, masked⟩ both,
        fun _ => offered⟩

theorem State.carryLoss_of_due_eq {s : State} {n : Station} (due : s.lossDue n = true) :
    s.carryLoss n = ((s.setLnk s.lnk).setPtb (s.ptb.setPeer n { s.ptb.peer n with state := .lost })).peerTrouble n
      .peerLost .peerLost := State.carryLoss_of_due due

/-- PEER_LOST with no end of a step and no fault of a taking due, and no lock evaluation that waits. -/
theorem exec_peerLost_of_due {s : State} {n : Station} (running : s.running = true) (due : s.lossDue n = true)
    (ending : s.endingStep = none) (limit : s.seq.markerLimit = false) (waiting : s.lck.waiting = none) :
    exec (.peerLost n) s = .next (s.carryLoss n) := by
  have stays : s.carryStepEnd.carryMarkerLimit = s := by
    have first : s.carryStepEnd = s := by simp [State.carryStepEnd, ending]
    rw [first, State.carryMarkerLimit_of_none limit]
  rw [exec_peerLost, State.carrying_of_running running, if_pos due, stays]
  simp [State.carryEvaluation, waiting]

/-- Settles O40. -/
theorem timeoutAndMaskedTroubleWithdraw : Obligations.TimeoutAndMaskedTroubleWithdraw := by
  unfold Obligations.TimeoutAndMaskedTroubleWithdraw
  refine ⟨fun s running => ⟨fun gate late => ?_, fun not => ?_⟩, fun s n c heard cause reason state other event => ?_⟩
  · refine ⟨s.withdraw .timeout, ?_, rfl, rfl, by simp [State.onlyChanges_iff]⟩
    rw [exec_gatherTimeout, State.carrying_of_running running, State.carryTimeout,
      if_pos (State.timeoutDue_iff.2 ⟨gate, late⟩)]
  · have notDue : ¬ s.timeoutDue = true := by
      rw [State.timeoutDue_iff, ← Nat.not_lt]
      tauto
    rw [exec_gatherTimeout, State.carrying_of_running running, State.carryTimeout, if_neg notDue]
  · obtain ⟨p, runs⟩ : ∃ p, exec c s = .next (((s.setLnk heard).setPtb p).peerTrouble n cause reason) := by
      obtain ⟨h, new, rfl, rfl, rfl, shows⟩ | ⟨running, due, limit, waiting, rfl, rfl, rfl, rfl⟩ := event
      · obtain ⟨r, runs, tripped, present⟩ := exec_of_tripShown h other shows
        refine ⟨s.ptb.setPeer n r, ?_⟩
        rw [runs, State.updatePeer_of_tripped (s := s.frameEnd) other tripped present, if_neg (by exact new ▸ nofun)]
        rfl
      · refine ⟨s.ptb.setPeer n { s.ptb.peer n with state := .lost }, ?_⟩
        rw [exec_peerLost_of_due running due (State.endingStep_of_not_active (by simp [state])) limit waiting,
          State.carryLoss_of_due_eq due]
    exact ⟨_, runs, State.peerTrouble_of_gathering cause reason rfl state other⟩

end Sys2Proof.Machine
end

section
/-! PROOFS. A peer's loss (O33). The lock evaluation that waits for the losses of a wrap is read by nothing that
happens before it. -/

namespace Sys2Proof.Machine

/-! ### An evaluation that waits -/

/-- The station with another evaluation waiting (R122, R123). -/
def State.setWaiting (s : State) (w : Option Nat) : State := s.setLck { s.lck with waiting := w }

section
variable (s : State) (w : Option Nat)

@[simp] theorem State.setWaiting_stc : (s.setWaiting w).stc = s.stc := rfl
@[simp] theorem State.setWaiting_ctb : (s.setWaiting w).ctb = s.ctb := rfl
@[simp] theorem State.setWaiting_syn : (s.setWaiting w).syn = s.syn := rfl
@[simp] theorem State.setWaiting_pls : (s.setWaiting w).pls = s.pls := rfl
@[simp] theorem State.setWaiting_seq : (s.setWaiting w).seq = s.seq := rfl
@[simp] theorem State.setWaiting_jnt : (s.setWaiting w).jnt = s.jnt := rfl
@[simp] theorem State.setWaiting_ptb : (s.setWaiting w).ptb = s.ptb := rfl
@[simp] theorem State.setWaiting_ftu : (s.setWaiting w).ftu = s.ftu := rfl
@[simp] theorem State.setWaiting_freeCount : (s.setWaiting w).freeCount = s.freeCount := rfl

/-! What each operation makes of the station is the same, whatever waits. -/

theorem State.setSeq_setWaiting (q : Seq) : (s.setWaiting w).setSeq q = (s.setSeq q).setWaiting w := rfl
theorem State.setPtb_setWaiting (p : Ptb) : (s.setWaiting w).setPtb p = (s.setPtb p).setWaiting w := rfl
theorem State.setFtu_setWaiting (f : Ftu) : (s.setWaiting w).setFtu f = (s.setFtu f).setWaiting w := rfl
theorem State.countOrder_setWaiting : (s.setWaiting w).countOrder = s.countOrder.setWaiting w := rfl
theorem State.offerAll_setWaiting (p : Payload) : (s.setWaiting w).offerAll p = (s.offerAll p).setWaiting w := rfl
theorem State.offerStatus_setWaiting (c : StatusCause) :
    (s.setWaiting w).offerStatus c = (s.offerStatus c).setWaiting w := rfl
theorem State.pointToNext_setWaiting (r : StepRecord) :
    (s.setWaiting w).pointToNext r = (s.pointToNext r).setWaiting w := rfl
theorem State.rest_setWaiting (q : SeqState) : (s.setWaiting w).rest q = (s.rest q).setWaiting w := rfl
theorem State.withdraw_setWaiting (r : WithdrawReason) : (s.setWaiting w).withdraw r = (s.withdraw r).setWaiting w := rfl

theorem State.writeBack_setWaiting (r : StepRecord) (e : EndReason) (live : Bool) (p : Pass) :
    (s.setWaiting w).writeBack r e live p = (s.writeBack r e live p).setWaiting w := by
  unfold State.writeBack
  cases r.notify <;> rfl

theorem State.leaveGathering_setWaiting (r : WithdrawReason) :
    (s.setWaiting w).leaveGathering r = (s.leaveGathering r).setWaiting w := by
  by_cases idle : s.jnt.gate = .idle
  · simp [State.leaveGathering, idle]
  · simp only [State.leaveGathering, idle, State.setWaiting_jnt, if_false]
    rfl

theorem State.openGate_setWaiting (j : JointPart) : (s.setWaiting w).openGate j = (s.openGate j).setWaiting w := by
  have masked : ∀ p, (s.setWaiting w).maskedPeer j.mask p = s.maskedPeer j.mask p := fun _ => rfl
  unfold State.openGate
  simp only [masked]
  cases s.maskedPeer j.mask (·.tripped) <;> cases s.maskedPeer j.mask (·.state = .lost) <;> rfl

theorem State.enterGathering_setWaiting (j : JointPart) :
    (s.setWaiting w).enterGathering j = (s.enterGathering j).setWaiting w := by
  simp only [State.enterGathering, State.setWaiting_seq, State.setSeq_setWaiting, State.offerStatus_setWaiting,
    State.openGate_setWaiting]

theorem State.enterFalling_setWaiting : (s.setWaiting w).enterFalling = s.enterFalling.setWaiting w := by
  by_cases live : s.syn.out = .live
  · simp only [State.enterFalling, live, State.setWaiting_syn, if_true]
    rfl
  · simp [State.enterFalling, live]

theorem State.dropStep_setWaiting (e : EndReason) (r : WithdrawReason) :
    (s.setWaiting w).dropStep e r = (s.dropStep e r).setWaiting w := by
  have pass : (s.setWaiting w).passMeasures = s.passMeasures := rfl
  unfold State.dropStep
  rw [State.setWaiting_seq, pass]
  split <;> simp only [State.writeBack_setWaiting, State.pointToNext_setWaiting, State.leaveGathering_setWaiting]

theorem State.fault_setWaiting (c : FaultCause) : (s.setWaiting w).fault c = (s.fault c).setWaiting w := by
  simp only [State.fault, State.setWaiting_seq, State.dropStep_setWaiting, State.rest_setWaiting,
    State.enterFalling_setWaiting]
  split <;> rfl

theorem State.trip_setWaiting (c : TripCause) : (s.setWaiting w).trip c = (s.trip c).setWaiting w := by
  by_cases stopped : s.seq.state = .tripped ∨ s.seq.state = .faulted
  · rw [State.trip_of_stopped stopped, State.trip_of_stopped (s := s.setWaiting w) stopped]
  · obtain ⟨tripped, faulted⟩ := not_or.1 stopped
    simp [State.trip, tripped, faulted, State.setFtu_setWaiting, State.offerAll_setWaiting,
      State.enterFalling_setWaiting, State.dropStep_setWaiting, State.rest_setWaiting, State.offerStatus_setWaiting]

theorem State.setWaiting_of_arm (r : StepRecord) : (s.setWaiting w).arm r = (s.arm r).setWaiting w := by
  simp only [State.arm, State.setWaiting_seq, State.setSeq_setWaiting, State.enterGathering_setWaiting,
    State.offerStatus_setWaiting]
  split
  · split <;> rfl
  · rfl

theorem State.takeStep_setWaiting : (s.setWaiting w).takeStep = s.takeStep.setWaiting w := by
  simp only [State.takeStep, State.setWaiting_seq, State.setWaiting_pls, State.setSeq_setWaiting,
    State.offerStatus_setWaiting, State.setWaiting_of_arm, State.fault_setWaiting]
  split <;> rfl

theorem State.moveOn_setWaiting (r : StepRecord) : (s.setWaiting w).moveOn r = (s.moveOn r).setWaiting w := by
  simp only [State.moveOn, State.setWaiting_seq, State.pointToNext_setWaiting, State.setSeq_setWaiting,
    State.offerStatus_setWaiting, State.takeStep_setWaiting]
  split <;> rfl

theorem State.endStep_setWaiting (r : StepRecord) : (s.setWaiting w).endStep r = (s.endStep r).setWaiting w := by
  have pass : (s.setWaiting w).passMeasures = s.passMeasures := rfl
  have live : (s.setWaiting w).liveAfterPass = s.liveAfterPass := rfl
  simp only [State.endStep, pass, live, State.writeBack_setWaiting, State.offerStatus_setWaiting,
    State.setWaiting_seq, State.setSeq_setWaiting, State.moveOn_setWaiting]
  split <;> rfl

theorem State.carryStepEnd_setWaiting : (s.setWaiting w).carryStepEnd = s.carryStepEnd.setWaiting w := by
  have ending : (s.setWaiting w).endingStep = s.endingStep := rfl
  simp only [State.carryStepEnd, ending, State.endStep_setWaiting]
  split <;> rfl

theorem State.carryMarkerLimit_setWaiting : (s.setWaiting w).carryMarkerLimit = s.carryMarkerLimit.setWaiting w := by
  simp only [State.carryMarkerLimit, State.setWaiting_seq, State.setSeq_setWaiting, State.fault_setWaiting]
  split <;> rfl

theorem State.freeze_setWaiting : (s.setWaiting w).freeze = s.freeze.setWaiting w := by
  by_cases active : s.seq.state = .active
  · rw [State.freeze_of_active active, State.freeze_of_active (s := s.setWaiting w) active]
    rfl
  · rw [State.freeze_of_not_active active, State.freeze_of_not_active (s := s.setWaiting w) active]

theorem State.applyPolicy_setWaiting (c : TripCause) :
    (s.setWaiting w).applyPolicy c = (s.applyPolicy c).setWaiting w := by
  have excluded : (s.setWaiting w).peerEventExcluded = s.peerEventExcluded := rfl
  have policy : (s.setWaiting w).policyInForce = s.policyInForce := rfl
  simp only [State.applyPolicy, excluded, policy, State.trip_setWaiting, State.freeze_setWaiting]
  split
  · rfl
  · split <;> rfl

theorem State.maskedTrouble_setWaiting (n : Station) (r : WithdrawReason) :
    (s.setWaiting w).maskedTrouble n r = (s.maskedTrouble n r).setWaiting w := by
  unfold State.maskedTrouble
  by_cases h : (s.jnt.gate = .opened && maskHas s.jnt.mask n && n ≠ s.own) = true
  · rw [if_pos h, if_pos (by exact h), State.withdraw_setWaiting]
  · rw [if_neg h, if_neg (by exact h)]

theorem State.peerTrouble_setWaiting (n : Station) (c : TripCause) (r : WithdrawReason) :
    (s.setWaiting w).peerTrouble n c r = (s.peerTrouble n c r).setWaiting w := by
  unfold State.peerTrouble
  by_cases h : (s.jnt.gate = .opened && maskHas s.jnt.mask n && !s.peerEventExcluded && s.policyInForce = .follow) = true
  · rw [if_pos h, if_pos (by exact h)]
    cases order : Config.freeOrder s.freeCount
    · rw [State.eitherOrder_of_false order, State.eitherOrder_of_false (s := s.setWaiting w) order,
        State.countOrder_setWaiting, State.applyPolicy_setWaiting, State.maskedTrouble_setWaiting]
    · rw [State.eitherOrder_of_true order, State.eitherOrder_of_true (s := s.setWaiting w) order,
        State.countOrder_setWaiting, State.maskedTrouble_setWaiting, State.applyPolicy_setWaiting]
  · rw [if_neg h, if_neg (by exact h), State.maskedTrouble_setWaiting, State.applyPolicy_setWaiting]

theorem State.carryLoss_setWaiting {n : Station} (due : s.lossDue n = true) :
    (s.setWaiting w).carryLoss n = (s.carryLoss n).setWaiting w := by
  rw [State.carryLoss_of_due due, State.carryLoss_of_due (s := s.setWaiting w) due, State.setWaiting_ptb,
    State.setPtb_setWaiting, State.peerTrouble_setWaiting]

/-- PEER_LOST up to the evaluation that waits for it. -/
theorem State.carryLoss_after_ends_setWaiting {n : Station} (due : s.lossDue n = true) :
    ((s.setWaiting w).carryStepEnd.carryMarkerLimit.carryLoss n)
      = (s.carryStepEnd.carryMarkerLimit.carryLoss n).setWaiting w := by
  have stays : s.carryStepEnd.carryMarkerLimit.lossDue n = true := by
    rw [State.lossDue_congr (s := s) (by simp) (by simp) (by simp)]
    exact due
  rw [State.carryStepEnd_setWaiting, State.carryMarkerLimit_setWaiting, State.carryLoss_setWaiting _ _ stays]

end

/-! ### O33 -/

/-- With the losses of the wrap handed on, the evaluation that waits is made (R122, R123). -/
theorem State.carryEvaluation_setWaiting (s : State) (fBase : Nat) :
    (s.setWaiting (some fBase)).carryEvaluation
      = if s.anyLossDue = true then s.setWaiting (some fBase) else (s.setWaiting none).evaluateLock fBase := by
  have losses : (s.setWaiting (some fBase)).anyLossDue = s.anyLossDue := rfl
  have waits : (s.setWaiting (some fBase)).lck.waiting = some fBase := rfl
  rw [State.carryEvaluation, waits]
  simp only [losses]
  rfl

theorem State.carryEvaluation_of_none {s : State} (h : s.lck.waiting = none) : s.carryEvaluation = s := by
  simp [State.carryEvaluation, h]

theorem State.setWaiting_self (s : State) : s.setWaiting s.lck.waiting = s := rfl

theorem exec_peerLost_of_running {s : State} {n : Station} (running : s.running = true) (due : s.lossDue n = true) :
    exec (.peerLost n) s = .next (s.carryStepEnd.carryMarkerLimit.carryLoss n).carryEvaluation := by
  rw [exec_peerLost, State.carrying_of_running running, if_pos due]

/-- Settles O33. -/
theorem peerLostMarksTheRecord : Obligations.PeerLostMarksTheRecord := by
  unfold Obligations.PeerLostMarksTheRecord
  refine ⟨fun s n running notDue => ?_, fun s n running due => ?_,
    fun s n running ending limit waiting inCount other present aged => ?_, fun s n fBase running due waiting => ?_⟩
  · rw [exec_peerLost, State.carrying_of_running running, if_neg (by rw [notDue]; nofun)]
  · have runs : s.carryStepEnd.running = true := by simpa [State.running] using running
    have runs' : s.carryStepEnd.carryMarkerLimit.running = true := by simpa [State.running] using running
    have ended : s.carryStepEnd.carryMarkerLimit.endingStep = none :=
      State.carryMarkerLimit_endingStep s.carryStepEnd_endingStep
    have due' : s.carryStepEnd.carryMarkerLimit.lossDue n = true := by
      rw [State.lossDue_congr (s := s) (by simp) (by simp) (by simp)]
      exact due
    refine ⟨s.carryStepEnd, s.carryStepEnd.carryMarkerLimit, ?_, ?_, ended, by simp, ?_⟩
    · rw [exec_stepDurationEnd, State.carrying_of_running running]
    · rw [exec_markerLimit, State.carrying_of_running runs]
    · have stays : s.carryStepEnd.carryMarkerLimit.carryStepEnd = s.carryStepEnd.carryMarkerLimit := by
        rw [State.carryStepEnd, ended]
      rw [exec_peerLost_of_running running due, exec_peerLost_of_running runs' due', stays,
        State.carryMarkerLimit_of_none (State.carryMarkerLimit_markerLimit _)]
  · intro excluded lost
    have due : s.lossDue n = true := State.lossDue_iff.2 ⟨inCount, other, present, aged⟩
    have trouble : s.carryLoss n = lost.peerTrouble n .peerLost .peerLost := State.carryLoss_of_due due
    refine ⟨_, exec_peerLost_of_due running due ending limit waiting, ?_, fun m hm => State.carryLoss_peer_ne s hm,
      fun outside => ?_⟩
    · rw [State.carryLoss_ptb due, Ptb.peer_setPeer_same]
    · have policy : s.carryLoss n = lost.applyPolicy .peerLost := trouble.trans (State.peerTrouble_of_outside outside)
      have stands : ∀ also, .ptb ∈ also → also ⊆ [Block.ptb, .ftu, .lck, .fbm] →
          s.StandsFor lost s.lnk [] also := fun also inside apart =>
        (State.StandsFor.refl s apart).setPtb _ inside
      rw [policy]
      refine ⟨fun passes => ?_, fun heeds hold => ⟨fun inactive => ?_, fun active => ?_⟩, fun heeds follow => ?_⟩
      · obtain passes | ignore := passes
        · exact State.applyPolicy_of_excluded (State.peerEventExcluded_iff.2 passes)
        · exact State.applyPolicy_of_ignore (s := lost) ignore
      · rw [State.applyPolicy_of_hold (s := lost) (fun passes => heeds (State.peerEventExcluded_iff.1 passes)) hold]
        exact State.freeze_of_not_active (s := lost) inactive
      · rw [State.applyPolicy_of_hold (s := lost) (fun passes => heeds (State.peerEventExcluded_iff.1 passes)) hold]
        obtain ⟨seq, offered, frame⟩ := State.freeze_setPtb (stands [.ptb] (by simp) (by simp)) active
        exact ⟨seq, offered, frame.mono (by simp)⟩
      · rw [State.applyPolicy_of_follow (s := lost) (fun passes => heeds (State.peerEventExcluded_iff.1 passes)) follow]
        exact ⟨(stands [.ftu, .ptb] (by simp) (by simp)).tripsTo (by tauto) (by tauto) .peerLost,
          State.trip_ftu_of_runs (s := lost) (by tauto) (by tauto) .peerLost⟩
  · have base : s = (s.setWaiting none).setWaiting (some fBase) := by
      rw [← waiting]
      rfl
    obtain ⟨u, unwaiting⟩ : ∃ u, u = s.setWaiting none := ⟨_, rfl⟩
    have due' : u.lossDue n = true := by rw [unwaiting]; exact due
    have none' : (u.carryStepEnd.carryMarkerLimit.carryLoss n).lck.waiting = none := by simp [unwaiting]; rfl
    refine ⟨u.carryStepEnd.carryMarkerLimit.carryLoss n, ?_, ?_⟩
    · have runs : u.running = true := by rw [unwaiting]; exact running
      have result := exec_peerLost_of_running runs due'
      rw [State.carryEvaluation_of_none none', unwaiting] at result
      rw [unwaiting]
      exact result
    · rw [exec_peerLost_of_running running due, base, ← unwaiting,
        State.carryLoss_after_ends_setWaiting u _ due', State.carryEvaluation_setWaiting]
      have self : (u.carryStepEnd.carryMarkerLimit.carryLoss n).setWaiting none
          = u.carryStepEnd.carryMarkerLimit.carryLoss n := by
        rw [← none', State.setWaiting_self]
      rw [self]
      rfl

end Sys2Proof.Machine
end

section
/-! PROOFS. The relation of SEQ, JNT, SYN and OVL, kept by what a running station does (first part of O57): the shared
operations. -/

namespace Sys2Proof.Machine

/-! ### The relation -/

/-- The relation that the manual's tables give SEQ, JNT, SYN and OVL in a running station (5.1, R49, R69, R75). -/
structure State.Coherent (s : State) : Prop where
  live : holdsSlot s.seq.state = true ∨ s.seq.state = .suspended → s.syn.out = .live
  stopped : s.seq.state = .tripped ∨ s.seq.state = .faulted → s.syn.out ≠ .live
  holds : s.seq.image.isSome = true → holdsSlot s.seq.state = true
  held : holdsSlot s.seq.state = true → s.seq.markerLimit = false → s.seq.image.isSome = true
  limit : s.seq.markerLimit = true → s.seq.image = none ∧ s.syn.out = .live ∧ s.jnt.gate = .idle
    ∧ (s.seq.state = .idle ∨ s.seq.state = .suspended ∨ s.seq.state = .active ∨ s.seq.state = .held)
  gate : s.jnt.gate ≠ .idle ↔ s.seq.state = .gathering
  overlays : s.overlaysMatch

theorem State.consistent_of_running {s : State} (h : s.running = true) : s.consistent ↔ s.Coherent := by
  constructor
  · rintro ⟨output, image, gate, overlays⟩
    obtain ⟨live, stopped⟩ := output h
    obtain ⟨holds, held, limit⟩ := image h
    exact ⟨live, stopped, holds, held, limit, gate h, overlays⟩
  · intro c
    exact ⟨fun _ => ⟨c.live, c.stopped⟩, fun _ => ⟨c.holds, c.held, c.limit⟩, fun _ => c.gate, c.overlays⟩

theorem State.consistent_of_not_running {s : State} (h : s.running = false) : s.consistent ↔ s.overlaysMatch := by
  simp [State.consistent, State.outputMatches, State.imageMatches, State.gateMatches, h]

/-- SEQ may take a step: between two of its own, the output LIVE (R69, R79, R84, R85). -/
structure State.MayTake (s : State) : Prop where
  live : s.syn.out = .live
  gate : s.jnt.gate = .idle
  limit : s.seq.markerLimit = false
  state : s.seq.state = .idle ∨ s.seq.state = .suspended ∨ s.seq.state = .active ∨ s.seq.state = .held

/-! No peer's trouble makes a fault of a taking due. -/

section
variable {s : State}

@[simp] theorem State.thaw_markerLimit (s : State) : s.thaw.seq.markerLimit = s.seq.markerLimit := by
  unfold State.thaw
  split <;> rfl

@[simp] theorem State.freeze_markerLimit (s : State) : s.freeze.seq.markerLimit = s.seq.markerLimit := by
  unfold State.freeze
  split <;> rfl

theorem State.applyPolicy_markerLimit (h : s.seq.markerLimit = false) (c : TripCause) :
    (s.applyPolicy c).seq.markerLimit = false := by
  unfold State.applyPolicy
  split
  · exact h
  · split
    · exact State.trip_markerLimit h c
    · simpa using h
    · exact h

theorem State.peerTrouble_markerLimit (h : s.seq.markerLimit = false) (n : Station) (c : TripCause)
    (w : WithdrawReason) : (s.peerTrouble n c w).seq.markerLimit = false := by
  unfold State.peerTrouble
  split
  · unfold State.eitherOrder
    split
    · exact State.applyPolicy_markerLimit (by simpa using h) c
    · simpa using State.applyPolicy_markerLimit (s := s.countOrder) (by simpa using h) c
  · exact State.applyPolicy_markerLimit (by simpa using h) c

theorem State.updatePeer_markerLimit (h : s.seq.markerLimit = false) (n : Station) (r : PeerRecord) :
    (s.updatePeer n r).seq.markerLimit = false := by
  have thawed : (s.setPtb (s.ptb.setPeer n r)).thaw.seq.markerLimit = false := by
    rw [State.thaw_markerLimit]
    exact h
  simp only [State.updatePeer]
  split
  · exact h
  · split
    · exact thawed
    · split
      · exact State.peerTrouble_markerLimit thawed ..
      · split
        · exact State.peerTrouble_markerLimit thawed ..
        · exact thawed

theorem State.carryLoss_markerLimit (h : s.seq.markerLimit = false) (n : Station) :
    (s.carryLoss n).seq.markerLimit = false := by
  unfold State.carryLoss
  split
  · exact State.updatePeer_markerLimit h n _
  · exact h

theorem State.carryLosses_markerLimit (h : s.seq.markerLimit = false) : s.carryLosses.seq.markerLimit = false := by
  have kept := List.foldlRecOn stations State.carryLoss (motive := fun t : State => t.seq.markerLimit = false) h
    fun _ kept n _ => State.carryLoss_markerLimit kept n
  rw [State.carryLosses]
  exact kept

end

namespace State.Coherent

variable {s t : State}

/-- The relation is one of a few fields. -/
theorem congr (h : s.Coherent) (state : t.seq.state = s.seq.state := by simp)
    (image : t.seq.image = s.seq.image := by simp) (limit : t.seq.markerLimit = s.seq.markerLimit := by simp)
    (out : t.syn.out = s.syn.out := by simp) (gate : t.jnt.gate = s.jnt.gate := by simp)
    (ovl : s.overlaysMatch → t.overlaysMatch := by simp [State.overlaysMatch]) : t.Coherent where
  live := by rw [state, out]; exact h.live
  stopped := by rw [state, out]; exact h.stopped
  holds := by rw [state, image]; exact h.holds
  held := by rw [state, image, limit]; exact h.held
  limit := by rw [state, image, limit, out, gate]; exact h.limit
  gate := by rw [state, gate]; exact h.gate
  overlays := ovl h.overlays

theorem setLnk (h : s.Coherent) (l : Lnk) : (s.setLnk l).Coherent := h.congr
theorem setPtb (h : s.Coherent) (p : Ptb) : (s.setPtb p).Coherent := h.congr
theorem setPls (h : s.Coherent) (p : Pls) : (s.setPls p).Coherent := h.congr
theorem setCtb (h : s.Coherent) (c : Ctb) : (s.setCtb c).Coherent := h.congr
theorem setFtu (h : s.Coherent) (f : Ftu) : (s.setFtu f).Coherent := h.congr
theorem setFbm (h : s.Coherent) (m : Fbm) : (s.setFbm m).Coherent := h.congr
theorem setLck (h : s.Coherent) (l : Lck) : (s.setLck l).Coherent := h.congr
theorem setStc (h : s.Coherent) (x : Stc) : (s.setStc x).Coherent := h.congr
theorem setPending (h : s.Coherent) (l : List Instr) : (s.setPending l).Coherent := h.congr
theorem countOrder (h : s.Coherent) : s.countOrder.Coherent := h.congr
theorem offerAll (h : s.Coherent) (p : Payload) : (s.offerAll p).Coherent := h.congr
theorem offerStatus (h : s.Coherent) (c : StatusCause) : (s.offerStatus c).Coherent := h.congr

theorem image_of_holds (h : s.Coherent) {r : StepRecord} (image : s.seq.image = some r) :
    holdsSlot s.seq.state = true ∧ s.seq.markerLimit = false := by
  refine ⟨h.holds (by simp [image]), ?_⟩
  by_contra limit
  have none := (h.limit (by simpa using limit)).1
  rw [image] at none
  exact nomatch none

/-- Outside GATHERING the gate is IDLE. -/
theorem gate_idle (h : s.Coherent) (state : s.seq.state ≠ .gathering) : s.jnt.gate = .idle := by
  by_contra gate
  exact state (h.gate.1 gate)

/-! ### Coming to rest -/

theorem dropStep_gate (gate : s.jnt.gate ≠ .idle → s.seq.state = .gathering) (e : EndReason) (w : WithdrawReason) :
    (s.dropStep e w).jnt.gate = .idle := by
  by_cases gathers : s.seq.state = .gathering
  · rw [State.dropStep_of_gathering gathers]
    exact State.MakesNothingDue.leaveGathering_gate s w
  · obtain same | idle := State.MakesNothingDue.dropStep_jnt s e w
    · rw [same]
      by_contra opened
      exact gathers (gate opened)
    · exact idle

theorem enterFalling_out (s : State) : s.enterFalling.syn.out ≠ .live := by
  by_cases live : s.syn.out = .live
  · rw [State.enterFalling_of_live live]
    simp [Syn.fall]
  · rwa [State.enterFalling_of_not_live live]

theorem enterFalling_overlays (overlays : s.overlaysMatch) (i : OverlayIndex) : s.enterFalling.ovl.slot i = .off := by
  by_cases live : s.syn.out = .live
  · rw [State.enterFalling_of_live live]
    simp
  · rw [State.enterFalling_of_not_live live]
    exact overlays live i

/-- SEQ at rest with the output falling or DARK: the relation holds, whatever SEQ held before (R87, R91, R92). -/
theorem letGoWith (overlays : s.overlaysMatch) (gate : s.jnt.gate ≠ .idle → s.seq.state = .gathering) {q : SeqState}
    (rests : q = .idle ∨ q = .tripped ∨ q = .faulted) (e : EndReason) (w : WithdrawReason) (fault : FaultCause)
    (c : StatusCause) : (s.letGoWith e w q fault c).Coherent := by
  have seq : (s.letGoWith e w q fault c).seq
      = { s.seq with
          state := q, loop := none, suspendLatch := false, image := none, awaitOpen := false, retest := false
          markerLimit := false, pointer := (s.dropStep e w).seq.pointer, faultCause := fault } := by
    simp [State.letGoWith, State.letGo_seq]
  have idle : (s.letGoWith e w q fault c).jnt.gate = .idle := by
    simpa [State.letGoWith] using dropStep_gate gate e w
  have falls : (s.letGoWith e w q fault c).syn.out ≠ .live := by
    simpa [State.letGoWith, State.letGo] using enterFalling_out ((s.dropStep e w).rest q)
  have holdsNone : holdsSlot q = false := by obtain rfl | rfl | rfl := rests <;> rfl
  refine ⟨?_, fun _ => falls, ?_, ?_, ?_, ?_, fun _ i => ?_⟩
  · rw [seq, holdsNone]
    obtain rfl | rfl | rfl := rests <;> simp
  · simp [seq]
  · simp [seq, holdsNone]
  · simp [seq]
  · rw [seq, idle]
    obtain rfl | rfl | rfl := rests <;> simp
  · have off := enterFalling_overlays (s := (s.dropStep e w).rest q) (by simpa [State.overlaysMatch] using overlays) i
    simpa [State.letGoWith, State.letGo] using off

theorem fault (h : s.Coherent) (c : FaultCause) : (s.fault c).Coherent := by
  by_cases faulted : s.seq.state = .faulted
  · rwa [State.fault_of_faulted faulted]
  · rw [State.fault_eq faulted]
    exact letGoWith h.overlays h.gate.1 (by simp) _ _ _ _

theorem trip (h : s.Coherent) (c : TripCause) : (s.trip c).Coherent := by
  by_cases stopped : s.seq.state = .tripped ∨ s.seq.state = .faulted
  · rwa [State.trip_of_stopped stopped]
  · obtain ⟨tripped, faulted⟩ := not_or.1 stopped
    rw [State.trip_eq tripped faulted]
    have offered := (h.setFtu { s.ftu with tripCause := some c }).offerAll (.trip c s.seq.pointer)
    exact letGoWith offered.overlays offered.gate.1 (by simp) _ _ _ _

theorem abort (h : s.Coherent) : s.abort.Coherent := by
  by_cases nothing : s.seq.state = .tripped ∨ s.seq.state = .faulted ∨ (s.seq.state = .idle ∧ s.syn.out ≠ .live)
  · rwa [State.abort_of_nothing nothing]
  · rw [State.abort_eq (by tauto) (by tauto) (by tauto)]
    exact letGoWith h.overlays h.gate.1 (by simp) _ _ _ _

/-! ### Taking a step -/

theorem openGate_gate (s : State) (j : JointPart) : (s.openGate j).jnt.gate ≠ .idle := by
  unfold State.openGate
  split
  · simp
  · split <;> simp

/-- A step in hand while the output is LIVE (R69). -/
theorem ofStep {r : StepRecord} (image : s.seq.image = some r) (limit : s.seq.markerLimit = false)
    (holds : holdsSlot s.seq.state = true) (live : s.syn.out = .live)
    (gate : s.jnt.gate ≠ .idle ↔ s.seq.state = .gathering) : s.Coherent where
  live := fun _ => live
  stopped := by rintro (stopped | stopped) <;> simp [stopped, holdsSlot] at holds
  holds := fun _ => holds
  held := fun _ _ => by simp [image]
  limit := by simp [limit]
  gate := gate
  overlays := fun dark => absurd live dark

/-- Between steps with the output LIVE (R69). -/
theorem ofRest (image : s.seq.image = none) (limit : s.seq.markerLimit = false)
    (state : s.seq.state = .idle ∨ s.seq.state = .suspended) (live : s.syn.out = .live) (gate : s.jnt.gate = .idle) :
    s.Coherent where
  live := fun _ => live
  stopped := by obtain state | state := state <;> simp [state]
  holds := by simp [image]
  held := by obtain state | state := state <;> simp [state, holdsSlot]
  limit := by simp [limit]
  gate := by obtain state | state := state <;> simp [state, gate]
  overlays := fun dark => absurd live dark

theorem enterGathering_seq (s : State) (j : JointPart) :
    (s.enterGathering j).seq = { s.seq with state := .gathering } := by
  simp [State.enterGathering]

theorem enterGathering {r : StepRecord} (image : s.seq.image = some r) (limit : s.seq.markerLimit = false)
    (live : s.syn.out = .live) (j : JointPart) : (s.enterGathering j).Coherent := by
  have seq := enterGathering_seq s j
  refine ofStep (r := r) (by rw [seq, image]) (by rw [seq, limit]) (by rw [seq]; rfl) (by simpa using live) ?_
  rw [seq]
  simp [State.enterGathering, openGate_gate]

theorem arm (h : s.MayTake) (r : StepRecord) : (s.arm r).Coherent := by
  obtain ⟨t, armed⟩ : ∃ t, t = s.setSeq { s.seq with
    state := .armed, image := some r, awaitOpen := decide (r.awaited = .none) } := ⟨_, rfl⟩
  have image : t.seq.image = some r := by rw [armed]; rfl
  have limit : t.seq.markerLimit = false := by rw [armed]; exact h.limit
  have state : t.seq.state = .armed := by rw [armed]; rfl
  have live : t.syn.out = .live := by rw [armed]; exact h.live
  have gate : t.jnt.gate = .idle := by rw [armed]; exact h.gate
  have coherent : t.Coherent := ofStep image limit (by rw [state]; rfl) live (by simp [state, gate])
  simp only [State.arm, ← armed]
  split
  · split
    · exact enterGathering image limit live _
    · exact coherent.offerStatus _
  · exact coherent.offerStatus _

theorem takeStep (h : s.MayTake) : s.takeStep.Coherent := by
  obtain ⟨w, found⟩ : ∃ w, w = walk s.pls s.seq.ringStart 1024 s.seq.pointer s.seq.loop := ⟨_, rfl⟩
  obtain ⟨t, walked⟩ : ∃ t, t = s.setSeq { s.seq with
    pointer := w.pointer, loop := w.loop, image := none, awaitOpen := false, retest := false } := ⟨_, rfl⟩
  have may : t.MayTake := by
    rw [walked]
    exact ⟨h.live, h.gate, h.limit, h.state⟩
  have image : t.seq.image = none := by rw [walked]; rfl
  simp only [State.takeStep, ← found, ← walked]
  split
  · refine offerStatus (ofRest ?_ ?_ ?_ ?_ ?_) _
    · exact image
    · exact may.limit
    · exact .inl rfl
    · exact may.live
    · exact may.gate
  · exact arm may _
  · have faulted : t.seq.state ≠ .faulted := by
      intro faulted
      have state := may.state
      simp [faulted] at state
    rw [State.fault_eq faulted]
    exact letGoWith (fun dark => absurd may.live dark) (fun opened => absurd may.gate opened) (by simp) _ _ _ _
  · have state : t.seq.state ≠ .gathering := by
      intro gathering
      have state := may.state
      simp [gathering] at state
    exact {
      live := fun _ => may.live
      stopped := fun (stopped : t.seq.state = .tripped ∨ t.seq.state = .faulted) => by
        have state := may.state
        obtain stopped | stopped := stopped <;> simp [stopped] at state
      holds := fun holds => by simp [image] at holds
      held := fun _ limit => nomatch limit
      limit := fun _ => ⟨image, may.live, may.gate, may.state⟩
      gate := ⟨fun opened => absurd may.gate opened, fun gathering => absurd gathering state⟩
      overlays := fun dark => absurd may.live dark }

/-- Between a step's end or release and the next: suspension, or a taking (R79, R84). -/
theorem moveOn (h : s.MayTake) (r : StepRecord) : (s.moveOn r).Coherent := by
  simp only [State.moveOn]
  split
  · refine offerStatus (ofRest ?_ ?_ ?_ ?_ ?_) _
    · rfl
    · exact h.limit
    · exact .inr rfl
    · exact h.live
    · exact h.gate
  · exact takeStep ⟨h.live, h.gate, h.limit, h.state⟩

/-- A step that SEQ holds outside GATHERING, with the output LIVE: SEQ may go on from it. -/
theorem mayTake (h : s.Coherent) {r : StepRecord} (image : s.seq.image = some r)
    (state : s.seq.state = .active ∨ s.seq.state = .held) : s.MayTake where
  live := h.live (.inl (h.image_of_holds image).1)
  gate := h.gate_idle (by obtain state | state := state <;> simp [state])
  limit := (h.image_of_holds image).2
  state := .inr (.inr state)

theorem endStep (h : s.Coherent) {r : StepRecord} (image : s.seq.image = some r) (active : s.seq.state = .active) :
    (s.endStep r).Coherent := by
  have may := h.mayTake image (.inl active)
  obtain ⟨t, ended⟩ : ∃ t, t = (s.writeBack r .completed s.liveAfterPass s.passMeasures).offerStatus .ended := ⟨_, rfl⟩
  have seq : t.seq = s.seq := by rw [ended]; simp
  have may' : t.MayTake := by
    rw [ended]
    exact ⟨by simpa using may.live, by simpa using may.gate, by simpa using may.limit, by simpa using may.state⟩
  simp only [State.endStep, ← ended]
  split
  · refine offerStatus (ofStep (r := r) ?_ ?_ ?_ ?_ ?_) _
    · rw [State.setSeq_seq, seq, image]
    · exact may'.limit
    · rfl
    · exact may'.live
    · simp [may'.gate]
  · exact moveOn may' r

/-! ### Peers and the gate -/

/-- ACTIVE and FROZEN stand alike in the relation. -/
theorem setState (h : s.Coherent) (before : s.seq.state = .active ∨ s.seq.state = .frozen) {q : SeqState}
    (after : q = .active ∨ q = .frozen) (limit : s.seq.markerLimit = false) :
    (s.setSeq { s.seq with state := q }).Coherent := by
  have holds : holdsSlot s.seq.state = true := by obtain state | state := before <;> rw [state] <;> rfl
  obtain ⟨r, image⟩ := Option.isSome_iff_exists.1 (h.held holds limit)
  have idle : s.jnt.gate = .idle := h.gate_idle (by obtain state | state := before <;> simp [state])
  refine ofStep (r := r) image limit ?_ (h.live (.inl holds)) ?_
  · obtain rfl | rfl := after <;> rfl
  · obtain rfl | rfl := after <;> simp [idle]

theorem freeze (h : s.Coherent) (limit : s.seq.markerLimit = false) : s.freeze.Coherent := by
  unfold State.freeze
  split
  next active => exact (h.setState (.inl active) (.inr rfl) limit).offerStatus _
  next => exact h

theorem thaw (h : s.Coherent) : s.thaw.Coherent := by
  unfold State.thaw
  split
  next frozen =>
    simp only [Bool.and_eq_true, decide_eq_true_eq] at frozen
    have limit : s.seq.markerLimit = false := by
      by_contra due
      have state := (h.limit (by simpa using due)).2.2.2
      simp [frozen.1] at state
    exact (h.setState (.inr frozen.1) (.inl rfl) limit).offerStatus _
  next => exact h

theorem setJnt (h : s.Coherent) {j : Jnt} (gate : j.gate ≠ .idle) (opened : s.jnt.gate ≠ .idle) :
    (s.setJnt j).Coherent where
  live := h.live
  stopped := h.stopped
  holds := h.holds
  held := h.held
  limit := fun due => absurd (h.limit due).2.2.1 opened
  gate := ⟨fun _ => h.gate.1 opened, fun _ => gate⟩
  overlays := h.overlays

theorem withdraw (h : s.Coherent) (opened : s.jnt.gate ≠ .idle) (w : WithdrawReason) : (s.withdraw w).Coherent := by
  rw [State.withdraw_eq]
  exact (h.setLnk _).setJnt (by simp) opened

theorem maskedTrouble (h : s.Coherent) (n : Station) (w : WithdrawReason) : (s.maskedTrouble n w).Coherent := by
  unfold State.maskedTrouble
  split
  next opened =>
    simp only [Bool.and_eq_true, decide_eq_true_eq] at opened
    exact h.withdraw (by simp [opened.1.1]) w
  next => exact h

theorem applyPolicy (h : s.Coherent) (limit : s.seq.markerLimit = false) (c : TripCause) :
    (s.applyPolicy c).Coherent := by
  unfold State.applyPolicy
  split
  · exact h
  · split
    · exact h.trip c
    · exact h.freeze limit
    · exact h

theorem peerTrouble (h : s.Coherent) (limit : s.seq.markerLimit = false) (n : Station) (c : TripCause)
    (w : WithdrawReason) : (s.peerTrouble n c w).Coherent := by
  unfold State.peerTrouble
  split
  · unfold State.eitherOrder
    split
    · exact (h.countOrder.maskedTrouble n w).applyPolicy (by simpa using limit) c
    · exact (h.countOrder.applyPolicy (by simpa using limit) c).maskedTrouble n w
  · exact (h.maskedTrouble n w).applyPolicy (by simpa using limit) c

theorem updatePeer (h : s.Coherent) (limit : s.seq.markerLimit = false) (n : Station) (r : PeerRecord) :
    (s.updatePeer n r).Coherent := by
  have stored := h.setPtb (s.ptb.setPeer n r)
  have limit' : (s.setPtb (s.ptb.setPeer n r)).thaw.seq.markerLimit = false := by
    rw [State.thaw_markerLimit]
    exact limit
  simp only [State.updatePeer]
  split
  · exact stored
  · split
    · exact stored.thaw
    · split
      · exact stored.thaw.peerTrouble limit' ..
      · split
        · exact stored.thaw.peerTrouble limit' ..
        · exact stored.thaw

theorem abandon (h : s.Coherent) (opened : s.jnt.gate ≠ .idle) : s.abandon.Coherent := by
  have state := h.gate.1 opened
  have holds : holdsSlot s.seq.state = true := by rw [state]; rfl
  have limit : s.seq.markerLimit = false := by
    by_contra due
    exact opened (h.limit (by simpa using due)).2.2.1
  obtain ⟨r, image⟩ := Option.isSome_iff_exists.1 (h.held holds limit)
  obtain ⟨seq, jnt, -, -⟩ := State.abandon_of_image image
  exact ofRest (by rw [seq]) (by rw [seq]; exact limit) (by rw [seq]; exact .inr rfl)
    (by simpa using h.live (.inl holds)) (by rw [jnt])

theorem heardWithdraw (h : s.Coherent) (tag : Tag) : (s.heardWithdraw tag).Coherent := by
  unfold State.heardWithdraw
  split
  next opened =>
    simp only [Bool.and_eq_true, Bool.or_eq_true, decide_eq_true_eq] at opened
    exact h.abandon (by obtain opened | opened := opened.1 <;> simp [opened])
  next => exact h

theorem testBarrier (h : s.Coherent) (n : Station) (tag : Tag) : (s.testBarrier n tag).Coherent := by
  by_cases opened : s.jnt.gate = .opened ∨ s.jnt.gate = .withdrawing
  · have gate : s.jnt.gate ≠ .idle := by obtain opened | opened := opened <;> simp [opened]
    rw [State.testBarrier_of_open opened]
    dsimp only
    split
    · rw [State.completeBarrier_eq]
      exact ((h.setJnt gate gate).setLnk _).setJnt (by simp) gate
    · exact h.setJnt gate gate
  · rw [State.testBarrier_of_shut (by cases gate : s.jnt.gate <;> simp [gate] at opened ⊢)]
    exact h

/-! ### What is due -/

theorem carryLoss (h : s.Coherent) (limit : s.seq.markerLimit = false) (n : Station) : (s.carryLoss n).Coherent := by
  unfold State.carryLoss
  split
  · exact h.updatePeer limit n _
  · exact h

theorem evaluateLock (h : s.Coherent) (fBase : Nat) : (s.evaluateLock fBase).Coherent := h.congr

theorem carryEvaluation (h : s.Coherent) : s.carryEvaluation.Coherent := h.congr

theorem carryTimeout (h : s.Coherent) : s.carryTimeout.Coherent := by
  unfold State.carryTimeout
  split
  next due => exact h.withdraw (by simp [(State.timeoutDue_iff.1 due).1]) _
  next => exact h

theorem carryStepEnd (h : s.Coherent) : s.carryStepEnd.Coherent := by
  unfold State.carryStepEnd
  split
  next r ending =>
    obtain ⟨image, active, -⟩ := State.endingStep_eq_some_iff.1 ending
    exact h.endStep image active
  next => exact h

theorem carryMarkerLimit (h : s.Coherent) : s.carryMarkerLimit.Coherent := by
  unfold State.carryMarkerLimit
  split
  next due =>
    obtain ⟨-, live, idle, state⟩ := h.limit due
    obtain ⟨t, cleared⟩ : ∃ t, t = s.setSeq { s.seq with markerLimit := false } := ⟨_, rfl⟩
    have out : t.syn.out = .live := by rw [cleared]; exact live
    have gate : t.jnt.gate = .idle := by rw [cleared]; exact idle
    have faulted : t.seq.state ≠ .faulted := by
      rw [cleared]
      intro (faulted : s.seq.state = .faulted)
      simp [faulted] at state
    rw [← cleared, State.fault_eq faulted]
    exact letGoWith (fun dark => absurd out dark) (fun opened => absurd gate opened) (by simp) _ _ _ _
  next => exact h

theorem carryOwnTrip (h : s.Coherent) : s.carryOwnTrip.Coherent := by
  simp only [State.carryOwnTrip]
  split
  · exact (h.carryMarkerLimit.setFtu _).trip _
  · exact h

theorem carrySafeEnd (h : s.Coherent) : s.carrySafeEnd.Coherent := by
  unfold State.carrySafeEnd
  split
  next done =>
    have falling : s.syn.out = .falling := by
      cases out : s.syn.out <;> simp [Syn.safeDone, out] at done ⊢
    have dark : ¬ (holdsSlot s.seq.state = true ∨ s.seq.state = .suspended) := fun holds => by
      simp [h.live holds] at falling
    exact {
      live := fun holds => absurd holds dark
      stopped := fun _ => by simp [Syn.darken]
      holds := h.holds
      held := h.held
      limit := fun due => by simp [(h.limit due).2.1] at falling
      gate := h.gate
      overlays := fun _ i => h.overlays (by simp [falling]) i }
  next => exact h

theorem carryLosses (h : s.Coherent) (limit : s.seq.markerLimit = false) : s.carryLosses.Coherent := by
  have kept := List.foldlRecOn stations State.carryLoss
    (motive := fun t : State => t.Coherent ∧ t.seq.markerLimit = false) ⟨h, limit⟩
    fun t kept n _ => ⟨kept.1.carryLoss kept.2 n, State.carryLoss_markerLimit kept.2 n⟩
  exact kept.1

end State.Coherent
end Sys2Proof.Machine
end

section
/-! PROOFS. What the parts of a sample event write of SYN and CTB, and what they leave alone field by field. -/

namespace Sys2Proof.Machine

section
variable (y : Syn)

/-! ### SYN -/

/-- The level of a sample is a change of the level and of its two ramps (R20, R22, R23). -/
theorem Syn.levelStep_eq (frozen : Bool) :
    ∃ l r g, y.levelStep frozen = { y with level := l, ramp := r, safe := g } := by
  unfold Syn.levelStep
  split
  · split
    · exact ⟨_, _, _, rfl⟩
    · exact ⟨_, _, _, rfl⟩
  · split
    · exact ⟨_, _, _, rfl⟩
    · split
      · exact ⟨_, _, _, rfl⟩
      · exact ⟨_, _, _, rfl⟩

@[simp] theorem Syn.levelStep_out (frozen : Bool) : (y.levelStep frozen).out = y.out := by
  obtain ⟨_, _, _, h⟩ := y.levelStep_eq frozen
  rw [h]
@[simp] theorem Syn.levelStep_profile (frozen : Bool) : (y.levelStep frozen).profile = y.profile := by
  obtain ⟨_, _, _, h⟩ := y.levelStep_eq frozen
  rw [h]
@[simp] theorem Syn.levelStep_pendingCopy (frozen : Bool) : (y.levelStep frozen).pendingCopy = y.pendingCopy := by
  obtain ⟨_, _, _, h⟩ := y.levelStep_eq frozen
  rw [h]
@[simp] theorem Syn.levelStep_limited (frozen : Bool) : (y.levelStep frozen).limited = y.limited := by
  obtain ⟨_, _, _, h⟩ := y.levelStep_eq frozen
  rw [h]
@[simp] theorem Syn.levelStep_limitedSamples (frozen : Bool) : (y.levelStep frozen).limitedSamples = y.limitedSamples := by
  obtain ⟨_, _, _, h⟩ := y.levelStep_eq frozen
  rw [h]
@[simp] theorem Syn.levelStep_dac (frozen : Bool) : (y.levelStep frozen).dac = y.dac := by
  obtain ⟨_, _, _, h⟩ := y.levelStep_eq frozen
  rw [h]

/-- A start sample changes the level and its ramps, the profile and the limited-sample count (R21, R26, R32). -/
theorem Syn.startWith_eq (q : StepRecord) :
    ∃ l r g, y.startWith q
      = { y with level := l, ramp := r, safe := g, profile := q.profile.getD y.profile, limitedSamples := 0 } := by
  unfold Syn.startWith
  split
  · unfold Syn.startLevel
    split <;> exact ⟨_, _, _, rfl⟩
  · obtain ⟨l, r, g, h⟩ := y.levelStep_eq false
    rw [h]
    exact ⟨l, r, g, rfl⟩

@[simp] theorem Syn.startWith_out (q : StepRecord) : (y.startWith q).out = y.out := by
  obtain ⟨_, _, _, h⟩ := y.startWith_eq q
  rw [h]
@[simp] theorem Syn.startWith_pendingCopy (q : StepRecord) : (y.startWith q).pendingCopy = y.pendingCopy := by
  obtain ⟨_, _, _, h⟩ := y.startWith_eq q
  rw [h]
@[simp] theorem Syn.startWith_limited (q : StepRecord) : (y.startWith q).limited = y.limited := by
  obtain ⟨_, _, _, h⟩ := y.startWith_eq q
  rw [h]
@[simp] theorem Syn.startWith_dac (q : StepRecord) : (y.startWith q).dac = y.dac := by
  obtain ⟨_, _, _, h⟩ := y.startWith_eq q
  rw [h]

/-- The clip stage changes the code, LIMITED and the limited-sample count (R31, R32). -/
theorem Syn.present_eq (value : Int) (clip : Nat) (inEffect : Bool) :
    ∃ d l n, y.present value clip inEffect = { y with dac := d, limited := l, limitedSamples := n } := by
  unfold Syn.present
  split <;> exact ⟨_, _, _, rfl⟩

@[simp] theorem Syn.present_out (value : Int) (clip : Nat) (inEffect : Bool) : (y.present value clip inEffect).out = y.out := by
  obtain ⟨_, _, _, h⟩ := y.present_eq value clip inEffect
  rw [h]
@[simp] theorem Syn.present_level (value : Int) (clip : Nat) (inEffect : Bool) : (y.present value clip inEffect).level = y.level := by
  obtain ⟨_, _, _, h⟩ := y.present_eq value clip inEffect
  rw [h]
@[simp] theorem Syn.present_ramp (value : Int) (clip : Nat) (inEffect : Bool) : (y.present value clip inEffect).ramp = y.ramp := by
  obtain ⟨_, _, _, h⟩ := y.present_eq value clip inEffect
  rw [h]
@[simp] theorem Syn.present_safe (value : Int) (clip : Nat) (inEffect : Bool) : (y.present value clip inEffect).safe = y.safe := by
  obtain ⟨_, _, _, h⟩ := y.present_eq value clip inEffect
  rw [h]
@[simp] theorem Syn.present_profile (value : Int) (clip : Nat) (inEffect : Bool) : (y.present value clip inEffect).profile = y.profile := by
  obtain ⟨_, _, _, h⟩ := y.present_eq value clip inEffect
  rw [h]
@[simp] theorem Syn.present_pendingCopy (value : Int) (clip : Nat) (inEffect : Bool) :
    (y.present value clip inEffect).pendingCopy = y.pendingCopy := by
  obtain ⟨_, _, _, h⟩ := y.present_eq value clip inEffect
  rw [h]

end

/-! ### CTB -/

section
variable (c : Ctb)

/-- A frequency ramp's progress changes the base increment, the correction and the ramp (R9, R10). -/
theorem Ctb.rampStep_eq (frozen : Bool) : ∃ f v r, c.rampStep frozen = { c with f := f, c := v, ramp := r } := by
  unfold Ctb.rampStep
  split
  · exact ⟨_, _, _, rfl⟩
  · split <;> exact ⟨_, _, _, rfl⟩

@[simp] theorem Ctb.rampStep_tick (frozen : Bool) : (c.rampStep frozen).tick = c.tick := by
  obtain ⟨_, _, _, h⟩ := c.rampStep_eq frozen
  rw [h]
@[simp] theorem Ctb.rampStep_divider (frozen : Bool) : (c.rampStep frozen).divider = c.divider := by
  obtain ⟨_, _, _, h⟩ := c.rampStep_eq frozen
  rw [h]
@[simp] theorem Ctb.rampStep_theta (frozen : Bool) : (c.rampStep frozen).theta = c.theta := by
  obtain ⟨_, _, _, h⟩ := c.rampStep_eq frozen
  rw [h]
@[simp] theorem Ctb.rampStep_delta (frozen : Bool) : (c.rampStep frozen).delta = c.delta := by
  obtain ⟨_, _, _, h⟩ := c.rampStep_eq frozen
  rw [h]
@[simp] theorem Ctb.rampStep_ownCycles (frozen : Bool) : (c.rampStep frozen).ownCycles = c.ownCycles := by
  obtain ⟨_, _, _, h⟩ := c.rampStep_eq frozen
  rw [h]
@[simp] theorem Ctb.rampStep_commonCycles (frozen : Bool) : (c.rampStep frozen).commonCycles = c.commonCycles := by
  obtain ⟨_, _, _, h⟩ := c.rampStep_eq frozen
  rw [h]

/-- So does a change of F, with the end or the begin of a ramp (R8, R10). -/
theorem Ctb.setF_ramp_eq (f : Nat) (ramp : Option FreqRamp) :
    ∃ v, { c.setF f with ramp := ramp } = { c with f := f, c := v, ramp := ramp } := ⟨_, rfl⟩

theorem Ctb.startFrequency_eq (fBase frequency r : Nat) :
    ∃ f v p, c.startFrequency fBase frequency r = { c with f := f, c := v, ramp := p } := by
  simp only [Ctb.startFrequency]
  generalize incrementOf frequency = target
  split
  · obtain ⟨v, h⟩ := c.setF_ramp_eq target none
    exact ⟨_, v, _, h⟩
  · obtain ⟨v, h⟩ := c.setF_ramp_eq (rampValue fBase target 1 r)
      (some { start := fBase, target := target, length := r, index := 1 })
    exact ⟨_, v, _, h⟩

/-- And a start sample (R8, R9, R10). -/
theorem Ctb.startWith_eq (q : StepRecord) (fBase : Nat) :
    ∃ f v r, c.startWith q fBase = { c with f := f, c := v, ramp := r } := by
  unfold Ctb.startWith
  split
  · exact c.startFrequency_eq _ _ _
  · exact c.rampStep_eq false

@[simp] theorem Ctb.startWith_tick (q : StepRecord) (fBase : Nat) : (c.startWith q fBase).tick = c.tick := by
  obtain ⟨_, _, _, h⟩ := c.startWith_eq q fBase
  rw [h]
@[simp] theorem Ctb.startWith_divider (q : StepRecord) (fBase : Nat) : (c.startWith q fBase).divider = c.divider := by
  obtain ⟨_, _, _, h⟩ := c.startWith_eq q fBase
  rw [h]
@[simp] theorem Ctb.startWith_theta (q : StepRecord) (fBase : Nat) : (c.startWith q fBase).theta = c.theta := by
  obtain ⟨_, _, _, h⟩ := c.startWith_eq q fBase
  rw [h]
@[simp] theorem Ctb.startWith_delta (q : StepRecord) (fBase : Nat) : (c.startWith q fBase).delta = c.delta := by
  obtain ⟨_, _, _, h⟩ := c.startWith_eq q fBase
  rw [h]
@[simp] theorem Ctb.startWith_ownCycles (q : StepRecord) (fBase : Nat) : (c.startWith q fBase).ownCycles = c.ownCycles := by
  obtain ⟨_, _, _, h⟩ := c.startWith_eq q fBase
  rw [h]
@[simp] theorem Ctb.startWith_commonCycles (q : StepRecord) (fBase : Nat) : (c.startWith q fBase).commonCycles = c.commonCycles := by
  obtain ⟨_, _, _, h⟩ := c.startWith_eq q fBase
  rw [h]

end

/-! ### The overlay slots -/

/-- An OFF slot advances to an OFF slot (R41). -/
theorem Ovl.advance_off {o : Ovl} {i : OverlayIndex} (h : o.slot i = .off) : o.advance.slot i = .off := by
  rw [Ovl.slot_advance, h]
  rfl

end Sys2Proof.Machine
end

section
/-! PROOFS. The relation of SEQ, JNT, SYN and OVL, kept by every command (O57). -/

namespace Sys2Proof.Machine

/-- A RUN is accepted between steps alone, with the output not FALLING (R85). -/
theorem State.runs_of_ok {s : State} (ok : s.runAnswer = .ok) :
    (s.seq.state = .idle ∨ s.seq.state = .suspended) ∧ s.syn.out ≠ .falling := by
  unfold State.runAnswer at ok
  split at ok
  · exact nomatch ok
  next free =>
    split at ok
    · exact nomatch ok
    next going =>
      split at ok
      · exact nomatch ok
      next allowed =>
        refine ⟨?_, fun falling => allowed (by simp [falling])⟩
        cases state : s.seq.state <;> simp [state, holdsSlot] at free going ⊢

namespace State.Coherent

variable {s t : State}

/-! ### What is due -/

theorem carryLevelRampEnd (h : s.Coherent) : s.carryLevelRampEnd.Coherent := by
  unfold State.carryLevelRampEnd
  split
  · exact h.congr
  · exact h

theorem carryFrequencyRampEnd (h : s.Coherent) : s.carryFrequencyRampEnd.Coherent := h.congr

theorem settleEnds (h : s.Coherent) : s.settleEnds.Coherent := by
  unfold State.settleEnds
  split
  · unfold State.eitherOrder
    split
    · exact h.countOrder.carryStepEnd.carryMarkerLimit.carryOwnTrip
    · exact h.countOrder.carryOwnTrip.carryStepEnd.carryMarkerLimit
  · exact h.carryStepEnd.carryMarkerLimit.carryOwnTrip

theorem settleWraps (h : s.Coherent) (limit : s.seq.markerLimit = false) : s.settleWraps.Coherent := by
  unfold State.settleWraps
  split
  · unfold State.eitherOrder
    split
    · exact (h.countOrder.carryLosses (by simpa using limit)).carryTimeout.carryEvaluation
    · exact (h.countOrder.carryTimeout.carryLosses (by simpa using limit)).carryEvaluation
  · exact (h.carryLosses limit).carryTimeout.carryEvaluation

theorem settle (h : s.Coherent) : s.settle.Coherent := by
  unfold State.settle
  split
  · obtain ⟨-, limit, -⟩ := s.endsSettled_settleEnds
    exact (h.settleEnds.settleWraps limit).carryLevelRampEnd.carryFrequencyRampEnd.carrySafeEnd
  · exact h

/-! ### A sample event -/

theorem advanceOvl (h : s.Coherent) : (s.setOvl s.ovl.advance).Coherent :=
  h.congr (ovl := fun off dark i => Ovl.advance_off (off dark i))

/-- A COMPLETE gate begins its start-angle test (R132). -/
theorem beginAngleTest (h : s.Coherent) :
    (if s.jnt.gate = .complete then s.setJnt { s.jnt with angleTest := true } else s).Coherent := by
  split
  next complete => exact h.setJnt (by simp [complete]) (by simp [complete])
  next => exact h

theorem commonWrap (h : s.Coherent) (a : Advance) : (s.commonWrap a).Coherent := by
  have aged := ((h.setLnk (s.lnk.offer (.mark a.markInstant))).setPtb (s.ptb.aged s.own)).setLck
    { s.lck with waiting := some a.fBase }
  exact aged.carryEvaluation.beginAngleTest

theorem ownWrap (h : s.Coherent) (x : SampleInputs) : (s.ownWrap x).Coherent := by
  have folded : s.closeCycle.closeFold.Coherent := h.congr
  have applied : s.closeCycle.closeFold.applyPending.Coherent := by
    unfold State.applyPending
    split
    · exact folded.congr
    · exact folded
  unfold State.ownWrap
  exact applied.congr

theorem rampProgress (h : s.Coherent) : s.rampProgress.Coherent := by
  unfold State.rampProgress
  exact h.congr

theorem freezeRetest (h : s.Coherent) (limit : s.seq.markerLimit = false) : s.freezeRetest.Coherent := by
  have tested : (s.setSeq { s.seq with retest := false }).Coherent := h.congr
  simp only [State.freezeRetest]
  split
  · split
    · exact tested.freeze limit
    · exact tested
  · exact h

theorem countCycle (h : s.Coherent) (a : Advance) : (s.countCycle a).Coherent := by
  unfold State.countCycle
  split
  · exact h.congr
  · exact h

theorem startStep (h : s.Coherent) {a : Advance} {r : StepRecord} (starts : s.starting a = some r) :
    (s.startStep a r).Coherent := by
  obtain ⟨image, -, state⟩ := State.starting_eq_some_iff.1 starts
  obtain ⟨holds, limit⟩ := h.image_of_holds image
  have live := h.live (.inl holds)
  simp only [State.startStep]
  refine (ofStep (r := r) ?_ ?_ ?_ ?_ ?_).offerStatus _
  · exact image
  · exact limit
  · rfl
  · exact (Syn.startWith_out s.syn r).trans live
  · simp [Seq.startWith]

theorem seqProgress (h : s.Coherent) (a : Advance) : (s.seqProgress a).Coherent := by
  unfold State.seqProgress
  split
  · exact h
  next r image =>
    obtain ⟨holds, limit⟩ := h.image_of_holds image
    have live := h.live (.inl holds)
    split
    · exact h.congr
    · split
      · obtain ⟨t, opens⟩ : ∃ t, t = s.setSeq { s.seq with awaitOpen := true } := ⟨_, rfl⟩
        have image' : t.seq.image = some r := by rw [opens]; exact image
        have limit' : t.seq.markerLimit = false := by rw [opens]; exact limit
        have live' : t.syn.out = .live := by rw [opens]; exact live
        simp only [← opens]
        split
        · exact enterGathering image' limit' live' _
        · rw [opens]
          exact h.congr
      · exact h
    · exact h

theorem stepWork (h : s.Coherent) (limit : s.seq.markerLimit = false) (a : Advance) : (s.stepWork a).Coherent := by
  have ready : ((s.freezeRetest.countCycle a).setOvl s.ovl.advance).Coherent := by
    have advanced := ((h.freezeRetest limit).countCycle a).advanceOvl
    simpa using advanced
  simp only [State.stepWork]
  split
  next r starts => exact ready.startStep starts
  next => exact ready.rampProgress.seqProgress a

theorem withheldWork (h : s.Coherent) : s.withheldWork.Coherent := h.advanceOvl.rampProgress

theorem setFreeCount (h : s.Coherent) (n : Nat) : (s.setFreeCount n).Coherent := h.congr

theorem orderedWork (h : s.Coherent) (limit : s.seq.markerLimit = false) (a : Advance) :
    (s.orderedWork a).Coherent := by
  obtain ⟨n, work | ⟨-, withheld⟩ | ⟨-, -, withheld⟩ | ⟨-, -, losses⟩⟩ := s.orderedWork_cases a
  · rw [work]
    exact (h.setFreeCount n).stepWork limit a
  · rw [withheld]
    exact (h.setFreeCount n).withheldWork
  · rw [withheld]
    exact (h.setFreeCount n).withheldWork
  · rw [losses]
    refine ((h.setFreeCount n).carryLosses limit).carryEvaluation.stepWork ?_ a
    rw [State.carryEvaluation_seq]
    exact State.carryLosses_markerLimit (by simpa using limit)

theorem sample (h : s.Coherent) (limit : s.seq.markerLimit = false) (x : SampleInputs) : (s.sample x).Coherent := by
  have wrapped : ∀ u : State, u.Coherent → u.seq.markerLimit = false →
      ((if s.ctb.nextAdvance.ownWrap then u.ownWrap x else u).orderedWork s.ctb.nextAdvance).Coherent := by
    intro u coherent limit
    refine orderedWork ?_ ?_ _
    · split
      · exact coherent.ownWrap x
      · exact coherent
    · split
      · simpa [State.ownWrap] using limit
      · exact limit
  have worked : ((if s.ctb.nextAdvance.ownWrap then
      (if s.ctb.nextAdvance.commonWrap then (s.setCtb s.ctb.advance).commonWrap s.ctb.nextAdvance
        else s.setCtb s.ctb.advance).ownWrap x
      else (if s.ctb.nextAdvance.commonWrap then (s.setCtb s.ctb.advance).commonWrap s.ctb.nextAdvance
        else s.setCtb s.ctb.advance)).orderedWork s.ctb.nextAdvance).Coherent := by
    refine wrapped _ ?_ ?_
    · split
      · exact (h.setCtb _).commonWrap _
      · exact h.setCtb _
    · split
      · simpa using limit
      · exact limit
  have presented : ∀ u : State, u.Coherent → ((u.present s.ctb.nextAdvance.theta).feedback x).Coherent := by
    intro u coherent
    have code : (u.present s.ctb.nextAdvance.theta).Coherent := by
      unfold State.present
      exact coherent.congr
    exact code.congr
  exact presented _ worked

/-! ### The station link -/

theorem frameEnd (h : s.Coherent) : s.frameEnd.Coherent := h.setLnk _

theorem received (h : s.Coherent) (limit : s.seq.markerLimit = false) {n : NodeNumber} {isThis : Payload → Bool}
    {f : State → State} (hf : ∀ u : State, u.Coherent → u.seq.markerLimit = false → (f u).Coherent) :
    (s.received n isThis f).Coherent := by
  have ended := h.frameEnd
  unfold State.received State.heard
  split
  · dsimp only
    split
    · split
      · split
        · exact hf _ (ended.setLnk _) limit
        · exact ended.fault _
      · exact ended.fault _
    · exact hf _ ended limit
  · exact h

theorem transmitStart (h : s.Coherent) : s.transmitStart.Coherent := by
  unfold State.transmitStart
  split
  · dsimp only
    split
    · exact h.setLnk _
    · exact (h.setLnk _).setLnk _
  · exact h

/-! ### The requests -/

theorem reply (h : s.Coherent) (req : Requester) (p : Payload) : (s.reply req p).Coherent := by
  unfold State.reply
  split
  · exact h
  · exact h.congr

theorem answer (h : s.Coherent) (req : Requester) (kind : RequestKind) (first : Byte) (code : AnswerCode) :
    (s.answer req kind first code).Coherent := h.reply req _

theorem answer_markerLimit (s : State) (req : Requester) (kind : RequestKind) (first : Byte) (code : AnswerCode) :
    (s.answer req kind first code).seq.markerLimit = s.seq.markerLimit := by
  obtain ⟨l, answered, -⟩ := s.answer_eq_setLnk req kind first code
  rw [answered]
  rfl

theorem placeProfile (h : s.Coherent) (i : ProfileIndex) (l : List ProfileEntry) : (s.placeProfile i l).Coherent := by
  unfold State.placeProfile
  split
  · exact h.congr
  · exact h.congr

theorem applySetup (h : s.Coherent) (v : Setup) : (s.applySetup v).Coherent := ((h.setStc _).setCtb _).setFtu _

theorem startRun (h : s.Coherent) (limit : s.seq.markerLimit = false)
    (state : s.seq.state = .idle ∨ s.seq.state = .suspended) (out : s.syn.out ≠ .falling) (start : Option Slot) :
    (s.startRun start).Coherent := by
  have from' : (s.seq.runFrom start).state = s.seq.state ∧ (s.seq.runFrom start).markerLimit = s.seq.markerLimit := by
    cases start <;> exact ⟨rfl, rfl⟩
  have live : s.syn.energize.out = .live := by
    cases h : s.syn.out <;> simp [Syn.energize, h] at out ⊢
  have idle : s.jnt.gate = .idle := h.gate_idle (by obtain state | state := state <;> simp [state])
  refine takeStep ⟨live, idle, ?_, ?_⟩
  · exact from'.2.trans limit
  · obtain state | state := state
    · exact .inl (from'.1.trans state)
    · exact .inr (.inl (from'.1.trans state))

theorem suspendNow (h : s.Coherent) {r : StepRecord} (image : s.seq.image = some r)
    (state : s.seq.state ≠ .gathering) : s.suspendNow.Coherent := by
  obtain ⟨holds, limit⟩ := h.image_of_holds image
  refine (ofRest ?_ ?_ ?_ ?_ ?_).offerStatus _
  · rfl
  · exact limit
  · exact .inr rfl
  · exact h.live (.inl holds)
  · exact h.gate_idle state

theorem pointToNext (h : s.Coherent) (r : StepRecord) : (s.pointToNext r).Coherent := by
  unfold State.pointToNext
  exact h.congr

theorem suspend (h : s.Coherent) (limit : s.seq.markerLimit = false) : s.suspend.Coherent := by
  have image : holdsSlot s.seq.state = true → ∃ r, s.seq.image = some r := fun holds =>
    Option.isSome_iff_exists.1 (h.held holds limit)
  unfold State.suspend
  split
  · exact h.congr
  · exact h.congr
  next armed =>
    obtain ⟨r, image⟩ := image (by rw [armed]; rfl)
    exact h.suspendNow image (by simp [armed])
  next r held image =>
    exact (h.pointToNext r).suspendNow (r := r) image (by simp [State.pointToNext, held])
  next held none =>
    obtain ⟨r, image⟩ := image (by rw [held]; rfl)
    rw [none] at image
    exact nomatch image
  · exact h

theorem release (h : s.Coherent) : s.release.Coherent := by
  unfold State.release
  split
  next r held image => exact moveOn ((h.offerStatus .release).mayTake image (.inr held)) r
  next => exact h

theorem clearSticky (h : s.Coherent) : s.clearSticky.Coherent := by
  unfold State.clearSticky
  exact h.congr

theorem clearStop (h : s.Coherent) (stopped : s.seq.state = .tripped ∨ s.seq.state = .faulted) :
    s.clearStop.Coherent := by
  have image : s.seq.image = none := by
    by_contra some
    have holds := h.holds (Option.isSome_iff_ne_none.2 some)
    obtain stopped | stopped := stopped <;> simp [stopped, holdsSlot] at holds
  have limit : s.seq.markerLimit = false := by
    by_contra due
    have state := (h.limit (by simpa using due)).2.2.2
    obtain stopped | stopped := stopped <;> simp [stopped] at state
  have idle : s.jnt.gate = .idle := h.gate_idle (by obtain stopped | stopped := stopped <;> simp [stopped])
  simp only [State.clearStop]
  refine offerStatus ⟨?_, ?_, ?_, ?_, ?_, ?_, ?_⟩ _
  · simp [holdsSlot]
  · simp
  · simp [image]
  · simp [holdsSlot]
  · simp [limit]
  · simp [idle]
  · exact fun dark i => h.overlays dark i

end State.Coherent

/-! ### Every command of a running station -/

/-- A command that a running station takes after what is due keeps the relation. -/
theorem State.Coherent.taking {s t : State} {f : State → State} (running : s.running = true) (h : s.Coherent)
    (taken : s.taking f = .next t) (hf : ∀ u : State, u.Coherent → u.seq.markerLimit = false → (f u).Coherent) :
    t.Coherent := by
  rw [State.taking_of_running running] at taken
  obtain rfl := Host.Outcome.next.inj taken
  obtain ⟨-, limit, -⟩ := (State.settle_ready running).nothing_due
  exact hf _ h.settle limit

theorem State.Coherent.carrying {s t : State} {f : State → State} (running : s.running = true)
    (carried : s.carrying f = .next t) (hf : (f s).Coherent) : t.Coherent := by
  rw [State.carrying_of_running running] at carried
  obtain rfl := Host.Outcome.next.inj carried
  exact hf

theorem State.Coherent.requested {s t : State} {f : State → State} (running : s.running = true) (h : s.Coherent)
    (taken : s.requested f = .next t) (hf : ∀ u : State, u.Coherent → u.seq.markerLimit = false → (f u).Coherent) :
    t.Coherent := by
  refine h.taking running taken fun u coherent limit => ?_
  unfold State.heard
  split
  · exact hf _ coherent.frameEnd limit
  · exact coherent

/-- A running station keeps the relation on every command but those of the reset and the start. -/
theorem State.Coherent.exec {s t : State} {c : Instr} (running : s.running = true) (h : s.Coherent)
    (stage : c.isStartEvent = false) (runs : exec c s = .next t) : t.Coherent := by
  cases c with
  | powerOn | supplyLow | resetPin | resetReleased | powerUpDelayEnd | oscillatorCountEnd => cases stage
  | sampleEvent x =>
    rw [exec_sampleEvent] at runs
    exact h.taking running runs fun u coherent limit => coherent.sample limit x
  | levelRampEnd => exact .carrying running runs h.carryLevelRampEnd
  | frequencyRampEnd => exact .carrying running runs h.carryFrequencyRampEnd
  | safeRampDownEnd => exact .carrying running runs h.carrySafeEnd
  | stepDurationEnd => exact .carrying running runs h.carryStepEnd
  | markerLimit => exact .carrying running runs h.carryMarkerLimit
  | ownTrip => exact .carrying running runs h.carryOwnTrip
  | peerLost n =>
    rw [exec_peerLost] at runs
    refine .carrying running runs ?_
    split
    · exact (h.carryStepEnd.carryMarkerLimit.carryLoss (State.carryMarkerLimit_markerLimit _) n).carryEvaluation
    · exact h
  | gatherTimeout => exact .carrying running runs h.carryTimeout
  | lineIdle =>
    rw [exec_lineIdle] at runs
    refine h.taking running runs fun u coherent _ => ?_
    unfold State.lineIdle
    split
    · exact coherent
    · exact coherent.setLnk _
  | transmitStart elapsed =>
    rw [exec_transmitStart] at runs
    exact h.taking running runs fun u coherent _ => (coherent.setCtb _).transmitStart
  | arbitrationLoss =>
    rw [exec_arbitrationLoss] at runs
    exact h.taking running runs fun u coherent _ => coherent.setLnk _
  | collision =>
    rw [exec_collision] at runs
    refine h.taking running runs fun u coherent _ => ?_
    unfold State.collide
    split
    · exact coherent.setLnk _
    · exact coherent
  | badFrame =>
    rw [exec_badFrame] at runs
    refine h.taking running runs fun u coherent _ => ?_
    unfold State.badFrame State.heard
    split
    · split
      · exact coherent.frameEnd
      · exact coherent.frameEnd.setLnk _
    · exact coherent
  | markReceived n m =>
    rw [exec_markReceived] at runs
    exact h.taking running runs fun u coherent limit => coherent.received limit fun v k l => k.updatePeer l ..
  | tripReceived n cause slot =>
    rw [exec_tripReceived] at runs
    exact h.taking running runs fun u coherent limit => coherent.received limit fun v k l => k.updatePeer l ..
  | joinReceived n tag mask =>
    rw [exec_joinReceived] at runs
    exact h.taking running runs fun u coherent limit =>
      coherent.received limit fun v k l => (k.updatePeer l ..).testBarrier ..
  | withdrawReceived n tag reason =>
    rw [exec_withdrawReceived] at runs
    exact h.taking running runs fun u coherent limit =>
      coherent.received limit fun v k l => (k.updatePeer l ..).heardWithdraw ..
  | statusReceived n cause q =>
    rw [exec_statusReceived] at runs
    exact h.taking running runs fun u coherent limit => coherent.received limit fun v k l => k.updatePeer l ..
  | replyFrameReceived n kind =>
    rw [exec_replyFrameReceived] at runs
    exact h.taking running runs fun u coherent limit => coherent.received limit fun v k _ => k
  | ignoredFrameReceived n =>
    rw [exec_ignoredFrameReceived] at runs
    exact h.taking running runs fun u coherent limit => coherent.received limit fun v k _ => k
  | startBitSeen elapsed =>
    rw [exec_startBitSeen] at runs
    refine h.taking running runs fun u coherent _ => ?_
    have passed : (u.passTicks elapsed).Coherent := coherent.setCtb _
    unfold State.otherStartBit
    split
    · exact passed.setLnk _
    · split
      · exact passed
      · exact passed.setLnk _
  | dominantBitNotIdle =>
    rw [exec_dominantBitNotIdle] at runs
    refine h.taking running runs fun u coherent _ => ?_
    unfold State.dominantNotIdle
    split
    · exact coherent
    · exact coherent.setLnk _
  | ownAbortedFrameDiscarded =>
    rw [exec_ownAbortedFrameDiscarded] at runs
    refine h.taking running runs fun u coherent _ => ?_
    unfold State.heard
    split
    · split
      · exact coherent.frameEnd
      · exact coherent
    · exact coherent
  | setup req v =>
    rw [exec_setup] at runs
    refine h.requested running runs fun u coherent _ => ?_
    dsimp only
    split
    · exact coherent.answer ..
    · split
      · exact coherent.answer ..
      · exact (coherent.answer ..).applySetup _
  | stepWrite req slot raw =>
    rw [exec_stepWrite] at runs
    refine h.requested running runs fun u coherent _ => ?_
    dsimp only
    split
    · exact coherent.answer ..
    · split
      · exact coherent.answer ..
      · exact (coherent.answer ..).setPls _
  | profileWrite req index count entries =>
    rw [exec_profileWrite] at runs
    refine h.requested running runs fun u coherent _ => ?_
    split
    · exact coherent.answer ..
    · exact (coherent.answer ..).placeProfile ..
  | stepRead req slot =>
    rw [exec_stepRead] at runs
    exact h.requested running runs fun u coherent _ => coherent.reply ..
  | run req start =>
    rw [exec_run] at runs
    refine h.requested running runs fun u coherent limit => ?_
    split
    next ok =>
      obtain ⟨state, out⟩ := State.runs_of_ok ok
      obtain ⟨l, answered, -⟩ := u.answer_eq_setLnk req .run (runFirst start) u.runAnswer
      rw [answered]
      exact (coherent.setLnk l).startRun limit state out start
    next => exact coherent.answer ..
  | suspend req =>
    rw [exec_suspend] at runs
    refine h.requested running runs fun u coherent limit => ?_
    exact (coherent.answer ..).suspend (by rw [State.Coherent.answer_markerLimit]; exact limit)
  | release req =>
    rw [exec_release] at runs
    exact h.requested running runs fun u coherent _ => (coherent.answer ..).release
  | abort req =>
    rw [exec_abort] at runs
    exact h.requested running runs fun u coherent _ => (coherent.answer ..).abort
  | clear req =>
    rw [exec_clear] at runs
    refine h.requested running runs fun u coherent _ => ?_
    split
    · exact coherent.answer ..
    · split
      next stopped =>
        obtain ⟨l, answered, -⟩ := u.answer_eq_setLnk req .clear 0 .ok
        rw [answered]
        exact (coherent.setLnk l).clearStop (by simpa [State.stopped] using stopped)
      · exact (coherent.answer ..).clearSticky
  | query req =>
    rw [exec_query] at runs
    exact h.requested running runs fun u coherent _ => coherent.reply ..
  | unreadableRequest req kind first =>
    rw [exec_unreadableRequest] at runs
    exact h.requested running runs fun u coherent _ => coherent.answer ..

end Sys2Proof.Machine
end

section
/-! PROOFS. What a command leaves of STC: the stage stands, and an accepted RUN alone sets the latch (O50); and with it
the relation of the states at every step (O57). -/

namespace Sys2Proof.Machine

/-! ### Operations that leave STC -/

section
variable (s : State)

theorem State.heard_stc {f : State → State} (hf : ∀ u : State, (f u).stc = u.stc) : (s.heard f).stc = s.stc := by
  unfold State.heard
  split
  · exact hf _
  · rfl

theorem State.received_stc (n : NodeNumber) (isThis : Payload → Bool) {f : State → State}
    (hf : ∀ u : State, (f u).stc = u.stc) : (s.received n isThis f).stc = s.stc := by
  refine s.heard_stc fun u => ?_
  split
  · split
    · split
      · exact hf _
      · simp
    · simp
  · exact hf u

@[simp] theorem State.reply_stc (req : Requester) (p : Payload) : (s.reply req p).stc = s.stc := by
  unfold State.reply
  split <;> simp

@[simp] theorem State.answer_stc (req : Requester) (kind : RequestKind) (first : Byte) (code : AnswerCode) :
    (s.answer req kind first code).stc = s.stc := by
  simp [State.answer]

theorem State.completeBarrier_stc : s.completeBarrier.stc = s.stc := by
  unfold State.completeBarrier
  cases h : s.jnt.withdrawRef <;> rfl

@[simp] theorem State.testBarrier_stc (n : Station) (tag : Tag) : (s.testBarrier n tag).stc = s.stc := by
  have own : ∀ u : State, u.stc = s.stc → (if u.jnt.ownJoin && u.allJoined then u.completeBarrier else u).stc = s.stc := by
    intro u same
    split
    · rw [State.completeBarrier_stc, same]
    · exact same
  unfold State.testBarrier
  split
  · dsimp only
    split
    · exact own _ rfl
    · exact own _ rfl
  · rfl

@[simp] theorem State.heardWithdraw_stc (tag : Tag) : (s.heardWithdraw tag).stc = s.stc := by
  unfold State.heardWithdraw
  split <;> simp

@[simp] theorem State.passTicks_stc (elapsed : Nat) : (s.passTicks elapsed).stc = s.stc := rfl

@[simp] theorem State.transmitStart_stc : s.transmitStart.stc = s.stc := by
  unfold State.transmitStart
  split
  · dsimp only
    split <;> rfl
  · rfl

@[simp] theorem State.placeProfile_stc (i : ProfileIndex) (l : List ProfileEntry) : (s.placeProfile i l).stc = s.stc := by
  unfold State.placeProfile
  split <;> simp

@[simp] theorem State.suspend_stc : s.suspend.stc = s.stc := by
  unfold State.suspend
  split <;> simp [State.suspendNow]

@[simp] theorem State.release_stc : s.release.stc = s.stc := by
  unfold State.release
  split <;> simp

@[simp] theorem State.abort_stc : s.abort.stc = s.stc := by
  unfold State.abort
  split <;> simp

@[simp] theorem State.clearStop_stc : s.clearStop.stc = s.stc := by
  unfold State.clearStop
  simp

@[simp] theorem State.otherStartBit_stc : s.otherStartBit.stc = s.stc := by
  unfold State.otherStartBit State.startBit
  split
  · rfl
  · split <;> rfl

theorem State.startRun_stc (start : Option Slot) : (s.startRun start).stc = { s.stc with energized := true } := by
  simp [State.startRun]

end

/-! ### The latch and the stage -/

/-- The stage of the start and the energized-since-start latch stand. -/
def State.keepsStage (s t : State) : Prop := t.stc.phase = s.stc.phase ∧ t.stc.energized = s.stc.energized

namespace State.keepsStage

variable {s t : State}

theorem of_stc (h : t.stc = s.stc) : s.keepsStage t := ⟨congrArg _ h, congrArg _ h⟩

theorem running (h : s.keepsStage t) : t.running = s.running := by
  unfold State.running
  rw [h.1]

theorem taking {f : State → State} (run : s.running = true) (h : s.taking f = .next t)
    (hf : ∀ u : State, u.keepsStage (f u)) : s.keepsStage t := by
  rw [State.taking_of_running run] at h
  obtain rfl := Host.Outcome.next.inj h
  obtain ⟨phase, latch⟩ := hf s.settle
  exact ⟨by rw [phase, State.settle_stc], by rw [latch, State.settle_stc]⟩

theorem carrying {f : State → State} (run : s.running = true) (h : s.carrying f = .next t) (hf : (f s).stc = s.stc) :
    s.keepsStage t := by
  rw [State.carrying_of_running run] at h
  obtain rfl := Host.Outcome.next.inj h
  exact of_stc hf

theorem requested {f : State → State} (run : s.running = true) (h : s.requested f = .next t)
    (hf : ∀ u : State, u.keepsStage (f u)) : s.keepsStage t := by
  refine taking run h fun u => ?_
  unfold State.heard
  split
  · exact hf u.frameEnd
  · exact of_stc rfl

/-- Every command of a running station but those of the reset and the start, and but a RUN, leaves stage and latch. -/
theorem exec {c : Instr} (run : s.running = true) (stage : c.isStartEvent = false)
    (other : ∀ req start, c ≠ .run req start) (runs : exec c s = .next t) : s.keepsStage t := by
  cases c with
  | powerOn | supplyLow | resetPin | resetReleased | powerUpDelayEnd | oscillatorCountEnd => cases stage
  | run req start => exact absurd rfl (other req start)
  | sampleEvent x =>
    rw [exec_sampleEvent] at runs
    exact taking run runs fun u => of_stc (u.sample_stc x)
  | levelRampEnd => exact carrying run runs s.carryLevelRampEnd_stc
  | frequencyRampEnd => exact carrying run runs s.carryFrequencyRampEnd_stc
  | safeRampDownEnd => exact carrying run runs s.carrySafeEnd_stc
  | stepDurationEnd => exact carrying run runs s.carryStepEnd_stc
  | markerLimit => exact carrying run runs s.carryMarkerLimit_stc
  | ownTrip => exact carrying run runs s.carryOwnTrip_stc
  | peerLost n =>
    rw [exec_peerLost] at runs
    refine carrying run runs ?_
    split <;> simp
  | gatherTimeout => exact carrying run runs s.carryTimeout_stc
  | lineIdle =>
    rw [exec_lineIdle] at runs
    refine taking run runs fun u => of_stc ?_
    unfold State.lineIdle
    split <;> rfl
  | transmitStart elapsed =>
    rw [exec_transmitStart] at runs
    exact taking run runs fun u => of_stc (by simp)
  | arbitrationLoss =>
    rw [exec_arbitrationLoss] at runs
    exact taking run runs fun u => of_stc rfl
  | collision =>
    rw [exec_collision] at runs
    refine taking run runs fun u => of_stc ?_
    unfold State.collide
    split <;> rfl
  | badFrame =>
    rw [exec_badFrame] at runs
    refine taking run runs fun u => of_stc (u.heard_stc fun v => ?_)
    split <;> rfl
  | markReceived n m =>
    rw [exec_markReceived] at runs
    exact taking run runs fun u => of_stc (u.received_stc _ _ fun v => v.updatePeer_stc ..)
  | tripReceived n cause slot =>
    rw [exec_tripReceived] at runs
    exact taking run runs fun u => of_stc (u.received_stc _ _ fun v => v.updatePeer_stc ..)
  | joinReceived n tag mask =>
    rw [exec_joinReceived] at runs
    exact taking run runs fun u => of_stc (u.received_stc _ _ fun v => by simp)
  | withdrawReceived n tag reason =>
    rw [exec_withdrawReceived] at runs
    exact taking run runs fun u => of_stc (u.received_stc _ _ fun v => by simp)
  | statusReceived n cause q =>
    rw [exec_statusReceived] at runs
    exact taking run runs fun u => of_stc (u.received_stc _ _ fun v => v.updatePeer_stc ..)
  | replyFrameReceived n kind =>
    rw [exec_replyFrameReceived] at runs
    exact taking run runs fun u => of_stc (u.received_stc _ _ fun _ => rfl)
  | ignoredFrameReceived n =>
    rw [exec_ignoredFrameReceived] at runs
    exact taking run runs fun u => of_stc (u.received_stc _ _ fun _ => rfl)
  | startBitSeen elapsed =>
    rw [exec_startBitSeen] at runs
    exact taking run runs fun u => of_stc (by simp)
  | dominantBitNotIdle =>
    rw [exec_dominantBitNotIdle] at runs
    refine taking run runs fun u => of_stc ?_
    unfold State.dominantNotIdle
    split <;> rfl
  | ownAbortedFrameDiscarded =>
    rw [exec_ownAbortedFrameDiscarded] at runs
    refine taking run runs fun u => of_stc ?_
    split
    · exact u.heard_stc fun _ => rfl
    · rfl
  | setup req v =>
    rw [exec_setup] at runs
    refine requested run runs fun u => ?_
    dsimp only
    split
    · exact of_stc (by simp)
    · split
      · exact of_stc (by simp)
      · exact ⟨by simp [State.applySetup], by simp [State.applySetup]⟩
  | stepWrite req slot raw =>
    rw [exec_stepWrite] at runs
    refine requested run runs fun u => of_stc ?_
    dsimp only
    split
    · simp
    · split <;> simp
  | profileWrite req index count entries =>
    rw [exec_profileWrite] at runs
    refine requested run runs fun u => of_stc ?_
    split <;> simp
  | stepRead req slot =>
    rw [exec_stepRead] at runs
    exact requested run runs fun u => of_stc (by simp)
  | suspend req =>
    rw [exec_suspend] at runs
    exact requested run runs fun u => of_stc (by simp)
  | release req =>
    rw [exec_release] at runs
    exact requested run runs fun u => of_stc (by simp)
  | abort req =>
    rw [exec_abort] at runs
    exact requested run runs fun u => of_stc (by simp)
  | clear req =>
    rw [exec_clear] at runs
    refine requested run runs fun u => of_stc ?_
    split
    · simp
    · split <;> simp
  | query req =>
    rw [exec_query] at runs
    exact requested run runs fun u => of_stc (by simp)
  | unreadableRequest req kind first =>
    rw [exec_unreadableRequest] at runs
    exact requested run runs fun u => of_stc (by simp)

end State.keepsStage

/-! ### Commands of a station that does not run -/

/-- Before the end of the start no command but those of the reset and the start acts (R158). -/
theorem exec_of_not_running {c : Instr} {s : State} (stage : c.isStartEvent = false) (stopped : s.running = false) :
    exec c s = .next s := by
  by_cases due : c.isDueEvent = true
  · cases c with
    | levelRampEnd | frequencyRampEnd | safeRampDownEnd | stepDurationEnd | markerLimit | ownTrip | gatherTimeout
    | peerLost => exact State.carrying_of_not_running stopped _
    | _ => cases due
  · obtain ⟨f, taken⟩ := exec_eq_taking (by simpa using due) stage
    rw [taken, State.taking_of_not_running stopped]

/-- An accepted RUN: what R85 asks of the station that takes it. -/
theorem State.runAnswer_eq_ok_iff {s : State} : s.runAnswer = .ok ↔
    (s.seq.state = .idle ∨ s.seq.state = .suspended) ∧ s.syn.out ≠ .falling
      ∧ (∀ m : Station, m.toNat < s.count → m ≠ s.own → (s.ptb.peer m).state = .present
          ∧ (s.ptb.peer m).reported ≠ .tripped ∧ (s.ptb.peer m).reported ≠ .faulted)
      ∧ (s.lck.state = .locked ∨ (s.count = 1 ∧ s.lck.state = .alone)) := by
  have peers : s.peersUnready = false ↔ ∀ m : Station, m.toNat < s.count → m ≠ s.own →
      (s.ptb.peer m).state = .present ∧ (s.ptb.peer m).reported ≠ .tripped ∧ (s.ptb.peer m).reported ≠ .faulted := by
    simp only [State.peersUnready, List.any_eq_false, mem_stations, true_implies, State.expectedPeer]
    refine forall_congr' fun m => ?_
    simp
    tauto
  have lock : s.lockReady = true ↔ s.lck.state = .locked ∨ (s.count = 1 ∧ s.lck.state = .alone) := by
    simp [State.lockReady]
  rw [← peers, ← lock, State.runAnswer]
  cases state : s.seq.state <;> simp [holdsSlot]
  all_goals
    by_cases falling : s.syn.out = .falling <;> cases s.peersUnready <;> cases s.lockReady <;> simp [falling]

/-- The latch after a command: as it was, cleared by the end of a start, or set by an accepted RUN (R85, R163). -/
theorem energized_after {c : Instr} {s t : State} (runs : exec c s = .next t) :
    t.stc.energized = s.stc.energized
      ∨ (∃ straps, c = .oscillatorCountEnd straps ∧ t.stc.energized = false)
      ∨ ∃ req start, c = .run req start ∧ s.running = true ∧ s.settle.lnk.assembling = true
          ∧ s.settle.runAnswer = .ok ∧ t.stc.energized = true := by
  cases stage : c.isStartEvent
  case true =>
    have reset : ∀ k, (s.resetBy k).stc.energized = s.stc.energized := by
      intro k
      unfold State.resetBy
      split
      · exact (congrArg Stc.energized s.settle_stc :)
      · rfl
    cases c with
    | powerOn | supplyLow | resetPin =>
      obtain rfl := Host.Outcome.next.inj runs
      exact .inl (reset _)
    | resetReleased | powerUpDelayEnd =>
      obtain rfl := Host.Outcome.next.inj runs
      refine .inl ?_
      split <;> rfl
    | oscillatorCountEnd straps =>
      obtain rfl := Host.Outcome.next.inj runs
      split
      · exact .inr (.inl ⟨straps, rfl, rfl⟩)
      · exact .inl rfl
    | _ => cases stage
  case false =>
    cases run : s.running
    case false =>
      rw [exec_of_not_running stage run] at runs
      obtain rfl := Host.Outcome.next.inj runs
      exact .inl rfl
    case true =>
      by_cases other : ∀ req start, c ≠ .run req start
      · exact .inl (State.keepsStage.exec run stage other runs).2
      · simp only [not_forall, not_not] at other
        obtain ⟨req, start, rfl⟩ := other
        rw [exec_run, State.requested, State.taking_of_running run] at runs
        obtain rfl := Host.Outcome.next.inj runs
        cases assembling : s.settle.lnk.assembling
        case false =>
          refine .inl ?_
          rw [State.heard_of_not_assembling assembling, State.settle_stc]
        case true =>
          rw [State.heard_of_assembling assembling]
          by_cases ok : s.settle.runAnswer = .ok
          · refine .inr (.inr ⟨req, start, rfl, rfl, rfl, ok, ?_⟩)
            rw [if_pos (by exact ok), State.startRun_stc]
          · refine .inl ?_
            rw [if_neg (by exact ok), State.answer_stc]
            exact congrArg Stc.energized s.settle_stc

/-- Settles O50: a RUN alone reaches the latch, and the end of a start alone clears it. -/
theorem latchStandsUntilTheNextStart : Obligations.LatchStandsUntilTheNextStart := by
  unfold Obligations.LatchStandsUntilTheNextStart
  intro c s t runs
  obtain same | ⟨straps, rfl, cleared⟩ | ⟨req, start, rfl, run, assembling, ok, set⟩ := energized_after runs
  · rw [same]
    exact ⟨fun latched _ => latched, fun clear latched => absurd latched (by simp [clear])⟩
  · exact ⟨fun _ other => absurd rfl (other straps), fun _ latched => absurd latched (by simp [cleared])⟩
  · obtain ⟨state, out, peers, lock⟩ := State.runAnswer_eq_ok_iff.1 ok
    exact ⟨fun _ _ => set, fun _ _ => ⟨req, start, rfl, run, assembling, state, out, peers, lock⟩⟩

/-! ### The relation of the states -/

/-- A running station stays one on every command but those of the reset and the start. -/
theorem running_after {c : Instr} {s t : State} (run : s.running = true) (stage : c.isStartEvent = false)
    (runs : exec c s = .next t) : t.running = true := by
  by_cases other : ∀ req start, c ≠ .run req start
  · rw [(State.keepsStage.exec run stage other runs).running, run]
  · simp only [not_forall, not_not] at other
    obtain ⟨req, start, rfl⟩ := other
    rw [exec_run] at runs
    rw [State.requested, State.taking_of_running run] at runs
    obtain rfl := Host.Outcome.next.inj runs
    have phase : ∀ u : State, u.stc.phase = s.stc.phase → u.running = true := by
      intro u same
      rw [← run, State.running, State.running, same]
    refine phase _ ?_
    unfold State.heard
    split
    · dsimp only
      split
      · rw [State.startRun_stc, State.answer_stc]
        exact (congrArg Stc.phase s.settle_stc :)
      · rw [State.answer_stc]
        exact congrArg Stc.phase s.settle_stc
    · exact congrArg Stc.phase s.settle_stc

/-- The end of the start sequence leaves a station at rest, DARK, with nothing armed. -/
theorem State.Coherent.startUp (s : State) (straps : Straps) : (s.startUp straps).Coherent := by
  have ovl : (s.startUp straps).ovl = Ovl.allOff := rfl
  have limit : (s.startUp straps).seq.markerLimit = false := rfl
  have gate : (s.startUp straps).jnt.gate = .idle := rfl
  have out : (s.startUp straps).syn.out = .dark := rfl
  have state : (s.startUp straps).seq.state = .idle ∨ (s.startUp straps).seq.state = .faulted := by
    have stands : (s.startUp straps).seq.state = if straps.number.toNat ≥ straps.count then .faulted else .idle := by
      simp [State.startUp, startValues]
    rw [stands]
    split
    · exact .inr rfl
    · exact .inl rfl
  refine ⟨?_, ?_, ?_, ?_, ?_, ?_, ?_⟩
  · obtain state | state := state <;> simp [state, holdsSlot]
  · simp [out]
  · simp [State.startUp_image]
  · obtain state | state := state <;> simp [state, holdsSlot]
  · simp [limit]
  · obtain state | state := state <;> simp [state, gate]
  · intro _ i
    rw [ovl, Ovl.slot_allOff]

theorem State.consistent_assertReset (s : State) (k : StartCause) : (s.assertReset k).consistent :=
  (State.consistent_of_not_running rfl).2 fun _ i => Ovl.slot_allOff i

theorem State.quietInReset_assertReset (s : State) (k : StartCause) : (s.assertReset k).quietInReset :=
  fun _ => ⟨rfl, rfl, rfl, rfl, rfl, rfl, rfl, rfl, rfl⟩

/-- A change of the stage alone, before the end of the start, keeps the relation and the quiet. -/
theorem State.consistent_setPhase {s : State} (stopped : s.running = false) {p : StartPhase} (early : p ≠ .running)
    (h : s.consistent) : (s.setStc { s.stc with phase := p }).consistent :=
  (State.consistent_of_not_running (by simp [State.running, early])).2 ((State.consistent_of_not_running stopped).1 h)

theorem State.quietInReset_setStc {s : State} (stopped : s.running = false) (h : s.quietInReset) (x : Stc) :
    (s.setStc x).quietInReset := fun _ => h stopped

theorem State.not_running_of_phase {s : State} {p : StartPhase} (phase : s.stc.phase = p) (early : p ≠ .running) :
    s.running = false := by
  simp [State.running, phase, early]

/-- What a step or an event of the reset and the start leaves of a station: a reset asserted, a later stage, the end of
the start, or the same station. -/
theorem State.after_startEvent {c : Instr} {s t : State} (stage : c.isStartEvent = true) (runs : exec c s = .next t) :
    (∃ u k, t = State.assertReset u k) ∨ (s.running = false ∧ ∃ p, p ≠ .running ∧ t = s.setStc { s.stc with phase := p })
      ∨ (∃ straps, t = s.startUp straps) ∨ t = s := by
  cases c with
  | powerOn | supplyLow | resetPin =>
    obtain rfl := Host.Outcome.next.inj runs
    exact .inl ⟨_, _, rfl⟩
  | resetReleased | powerUpDelayEnd =>
    obtain rfl := Host.Outcome.next.inj runs
    split
    next phase => exact .inr (.inl ⟨State.not_running_of_phase phase (by decide), _, by decide, rfl⟩)
    next => exact .inr (.inr (.inr rfl))
  | oscillatorCountEnd straps =>
    obtain rfl := Host.Outcome.next.inj runs
    split
    · exact .inr (.inr (.inl ⟨straps, rfl⟩))
    · exact .inr (.inr (.inr rfl))
  | _ => cases stage

theorem exec_keeps_consistent {c : Instr} {s t : State} (h : s.consistent) (runs : exec c s = .next t) :
    t.consistent := by
  cases stage : c.isStartEvent
  case true =>
    obtain ⟨u, k, rfl⟩ | ⟨stopped, p, early, rfl⟩ | ⟨straps, rfl⟩ | rfl := State.after_startEvent stage runs
    · exact u.consistent_assertReset k
    · exact State.consistent_setPhase stopped early h
    · exact (State.consistent_of_running rfl).2 (State.Coherent.startUp s straps)
    · exact h
  case false =>
    cases run : s.running
    case false =>
      rw [exec_of_not_running stage run] at runs
      obtain rfl := Host.Outcome.next.inj runs
      exact h
    case true =>
      have coherent := (State.consistent_of_running run).1 h
      exact (State.consistent_of_running (running_after run stage runs)).2 (coherent.exec run stage runs)

theorem exec_keeps_quiet {c : Instr} {s t : State} (h : s.quietInReset) (runs : exec c s = .next t) :
    t.quietInReset := by
  cases stage : c.isStartEvent
  case true =>
    obtain ⟨u, k, rfl⟩ | ⟨stopped, p, -, rfl⟩ | ⟨straps, rfl⟩ | rfl := State.after_startEvent stage runs
    · exact u.quietInReset_assertReset k
    · exact State.quietInReset_setStc stopped h _
    · exact fun stopped => nomatch (stopped : true = false)
    · exact h
  case false =>
    cases run : s.running
    case false =>
      rw [exec_of_not_running stage run] at runs
      obtain rfl := Host.Outcome.next.inj runs
      exact h
    case true =>
      intro stopped
      rw [running_after run stage runs] at stopped
      exact nomatch stopped

/-- Settles O57: a running station keeps the relation through every operation (`State.Coherent`), and the rows of the
reset and the start set its terms. -/
theorem statesStayConsistent : Obligations.StatesStayConsistent := by
  unfold Obligations.StatesStayConsistent
  constructor
  · intro s t h runs
    unfold step at runs
    split at runs
    · obtain rfl := Host.Outcome.next.inj runs
      unfold State.quiet
      cases run : s.running
      case false => exact h
      case true =>
        have coherent := (State.consistent_of_running run).1 h
        rw [if_pos rfl]
        split
        · exact (State.consistent_of_running (by rw [State.settle_running, run])).2 coherent.settle
        · exact (State.consistent_of_running (by exact run)).2 (coherent.setCtb _)
    next rest _ => exact exec_keeps_consistent (s := s.setPending rest) h runs
  · intro s t h runs
    unfold step at runs
    split at runs
    · obtain rfl := Host.Outcome.next.inj runs
      unfold State.quiet
      cases run : s.running
      case false => exact h
      case true =>
        intro stopped
        rw [if_pos rfl] at stopped
        split at stopped
        · rw [State.settle_running, run] at stopped
          exact nomatch stopped
        · exact absurd (run.symm.trans stopped) (by decide)
    next rest _ => exact exec_keeps_quiet (s := s.setPending rest) h runs

end Sys2Proof.Machine
end

section
/-! PROOFS. The step, the reset and the start sequence: what a reset discards after what was due (O5), the values at the
end of the start (O6, O7), and what an empty queue and a station that does not run do (O1, O2, O4). -/

namespace Sys2Proof.Machine

/-- Settles O1. -/
theorem stepTakesTheFrontCommand : Obligations.StepTakesTheFrontCommand := by
  unfold Obligations.StepTakesTheFrontCommand
  intro s c rest front
  rw [step, front]

/-- Settles O2: on an empty queue a step is `State.quiet`, whose tick stops at the sample event. -/
theorem emptyQueueIsIdleOrOneTick : Obligations.EmptyQueueIsIdleOrOneTick := by
  unfold Obligations.EmptyQueueIsIdleOrOneTick
  intro s empty
  have quiet : step s = .next s.quiet := by rw [step, empty]
  rw [quiet]
  refine ⟨fun stopped => ?_, fun run due => ?_, fun ready early => ?_, fun ready last => ?_⟩
  · simp [State.quiet, stopped]
  · simp [State.quiet, run, due]
  · obtain ⟨run, due⟩ := ready
    have top : min 1599 (s.ctb.divider + 1) = s.ctb.divider + 1 := by omega
    simp [State.quiet, run, due, State.passTicks, Ctb.passTicks, top]
  · obtain ⟨run, due⟩ := ready
    have stands : s.ctb.passTicks 1 = s.ctb := by
      rw [Ctb.passTicks]
      simp [last]
      rw [← last]
    simp [State.quiet, run, due, State.passTicks, stands]

/-- Settles O4. -/
theorem onlyStartEventsActBeforeTheEndOfTheStart : Obligations.OnlyStartEventsActBeforeTheEndOfTheStart := by
  unfold Obligations.OnlyStartEventsActBeforeTheEndOfTheStart
  refine ⟨fun c s => exec_of_not_running, fun s => ⟨fun stage => ?_, fun stage => ?_, fun stage => ?_, fun stage => ?_,
    fun straps stage => ?_⟩⟩
  · rw [exec_resetReleased, if_pos stage]
  · rw [exec_powerUpDelayEnd, if_pos stage]
  · rw [exec_resetReleased, if_neg stage]
  · rw [exec_powerUpDelayEnd, if_neg stage]
  · rw [exec_oscillatorCountEnd, if_neg stage]

/-! ### With no step in effect nothing due writes the plan -/

/-- Nothing is written back, and no step comes to be in effect. -/
structure State.LeavesPlan (s t : State) : Prop where
  pls : t.pls = s.pls
  rests : t.inEffect = false

theorem State.inEffect_congr {s t : State} (seq : t.seq = s.seq) : t.inEffect = s.inEffect := by
  rw [State.inEffect, State.inEffect, seq]

namespace State.LeavesPlan

variable {s t u : State}

theorem refl (h : s.inEffect = false) : s.LeavesPlan s := ⟨rfl, h⟩

theorem trans (h : s.LeavesPlan t) (k : t.inEffect = false → t.LeavesPlan u) : s.LeavesPlan u :=
  ⟨(k h.rests).pls.trans h.pls, (k h.rests).rests⟩

theorem of_eq (h : s.inEffect = false) (pls : t.pls = s.pls) (seq : t.seq = s.seq) : s.LeavesPlan t :=
  ⟨pls, (State.inEffect_congr seq).trans h⟩

/-- A step that is not in effect is let go of without a write-back (R87, R91, R92). -/
theorem dropStep_pls (h : s.inEffect = false) (e : EndReason) (w : WithdrawReason) : (s.dropStep e w).pls = s.pls := by
  unfold State.dropStep
  split
  next active image => simp [State.inEffect, active, image] at h
  next frozen image => simp [State.inEffect, frozen, image] at h
  · exact s.pointToNext_pls _
  · exact s.leaveGathering_pls w
  · rfl

theorem fault (h : s.inEffect = false) (c : FaultCause) : s.LeavesPlan (s.fault c) := by
  unfold State.fault
  split
  · exact refl h
  · refine ⟨?_, ?_⟩
    · simp [dropStep_pls h]
    · simp [State.inEffect]

theorem trip (h : s.inEffect = false) (c : TripCause) : s.LeavesPlan (s.trip c) := by
  unfold State.trip
  split
  · exact refl h
  · refine ⟨?_, ?_⟩
    · dsimp only
      rw [State.offerStatus_pls, State.rest_pls, dropStep_pls]
      · simp
      · rw [State.inEffect_congr (s := s) (by simp), h]
    · simp [State.inEffect]

theorem freeze (h : s.inEffect = false) : s.LeavesPlan s.freeze := by
  refine ⟨s.freeze_pls, ?_⟩
  unfold State.freeze
  split
  next active => simpa [State.inEffect, active] using h
  · exact h

theorem applyPolicy (h : s.inEffect = false) (c : TripCause) : s.LeavesPlan (s.applyPolicy c) := by
  unfold State.applyPolicy
  split
  · exact refl h
  · split
    · exact trip h c
    · exact freeze h
    · exact refl h

theorem maskedTrouble (h : s.inEffect = false) (n : Station) (r : WithdrawReason) : s.LeavesPlan (s.maskedTrouble n r) := by
  refine of_eq h (s.maskedTrouble_pls n r) ?_
  unfold State.maskedTrouble
  split <;> simp

theorem eitherOrder {f g : State → State} (h : s.inEffect = false)
    (hf : ∀ t : State, t.inEffect = false → t.LeavesPlan (f t))
    (hg : ∀ t : State, t.inEffect = false → t.LeavesPlan (g t)) : s.LeavesPlan (s.eitherOrder f g) := by
  have drawn : s.LeavesPlan s.countOrder := of_eq h rfl rfl
  unfold State.eitherOrder
  split
  · exact (drawn.trans (hf _)).trans (hg _)
  · exact (drawn.trans (hg _)).trans (hf _)

theorem peerTrouble (h : s.inEffect = false) (n : Station) (c : TripCause) (r : WithdrawReason) :
    s.LeavesPlan (s.peerTrouble n c r) := by
  unfold State.peerTrouble
  split
  · exact eitherOrder h (fun _ k => maskedTrouble k n r) fun _ k => applyPolicy k c
  · exact (maskedTrouble h n r).trans fun k => applyPolicy k c

theorem carryLoss (h : s.inEffect = false) (n : Station) : s.LeavesPlan (s.carryLoss n) := by
  cases due : s.lossDue n
  · rw [State.carryLoss_of_not_due due]
    exact refl h
  · rw [State.carryLoss_of_due due]
    have marked : s.LeavesPlan (s.setPtb (s.ptb.setPeer n { s.ptb.peer n with state := .lost })) := of_eq h rfl rfl
    exact marked.trans fun k => peerTrouble k n _ _

theorem carryLosses (h : s.inEffect = false) : s.LeavesPlan s.carryLosses := by
  have kept := List.foldlRecOn stations State.carryLoss (motive := fun t : State => s.LeavesPlan t) (b := s)
    (refl h) fun t k n _ => k.trans fun rests => carryLoss rests n
  exact kept

theorem carryEvaluation (h : s.inEffect = false) : s.LeavesPlan s.carryEvaluation :=
  of_eq h s.carryEvaluation_pls s.carryEvaluation_seq

theorem carryTimeout (h : s.inEffect = false) : s.LeavesPlan s.carryTimeout := by
  refine of_eq h s.carryTimeout_pls ?_
  unfold State.carryTimeout
  split <;> simp

theorem carryStepEnd (h : s.inEffect = false) : s.LeavesPlan s.carryStepEnd := by
  unfold State.carryStepEnd
  split
  next ends =>
    unfold State.endingStep at ends
    split at ends
    next r image =>
      split at ends
      next due => simp [State.inEffect, image] at h due; exact absurd due.1 h.1
      next => exact nomatch ends
    next => exact nomatch ends
  · exact refl h

theorem carryMarkerLimit (h : s.inEffect = false) : s.LeavesPlan s.carryMarkerLimit := by
  unfold State.carryMarkerLimit
  split
  · have taken : s.LeavesPlan (s.setSeq { s.seq with markerLimit := false }) := ⟨rfl, h⟩
    exact taken.trans fun k => fault k _
  · exact refl h

theorem carryOwnTrip (h : s.inEffect = false) : s.LeavesPlan s.carryOwnTrip := by
  unfold State.carryOwnTrip
  split
  · refine (carryMarkerLimit h).trans fun k => ?_
    generalize s.carryMarkerLimit = t at k ⊢
    have taken : t.LeavesPlan (t.setFtu { t.ftu with tripDue := false }) := of_eq k rfl rfl
    exact taken.trans fun k => trip k _
  · exact refl h

theorem settleWraps (h : s.inEffect = false) : s.LeavesPlan s.settleWraps := by
  unfold State.settleWraps
  split
  · exact (eitherOrder h (fun _ => carryLosses) fun _ => carryTimeout).trans carryEvaluation
  · exact ((carryLosses h).trans carryTimeout).trans carryEvaluation

/-- The ends of the ramps come last and write nothing. -/
theorem rampEnds (s : State) :
    s.carryLevelRampEnd.carryFrequencyRampEnd.carrySafeEnd.pls = s.pls := by simp

theorem inEffect_of_no_image (h : s.seq.image = none) : s.inEffect = false := by simp [State.inEffect, h]

theorem inEffect_of_arm (s : State) (r : StepRecord) : (s.arm r).inEffect = false := by
  have state : (s.arm r).seq.state = .armed ∨ (s.arm r).seq.state = .gathering := by
    simp only [State.arm]
    split
    · split
      · simp [State.enterGathering]
      · simp
    · simp
  obtain state | state := state <;> simp [State.inEffect, state]

theorem takeStep_inEffect (s : State) : s.takeStep.inEffect = false := by
  simp only [State.takeStep]
  split
  · simp [State.inEffect]
  · exact inEffect_of_arm _ _
  · exact (fault (inEffect_of_no_image rfl) _).rests
  · exact inEffect_of_no_image rfl

/-- A step whose duration has ended is no longer in effect (R79). -/
theorem endStep_inEffect (s : State) (r : StepRecord) : (s.endStep r).inEffect = false := by
  simp only [State.endStep]
  split
  · simp [State.inEffect]
  · simp only [State.moveOn]
    split
    · simp [State.inEffect]
    · exact takeStep_inEffect _

end State.LeavesPlan

/-! ### The plan after what was due -/

theorem State.takeStep_pls (s : State) : s.takeStep.pls = s.pls := by
  simp only [State.takeStep]
  split
  · simp
  · simp
  · exact (State.LeavesPlan.fault (State.LeavesPlan.inEffect_of_no_image rfl) _).pls
  · rfl

/-- The end of a step writes its pass back, and what follows writes nothing (R79). -/
theorem State.endStep_pls (s : State) (r : StepRecord) :
    (s.endStep r).pls = s.pls.setSlot s.seq.pointer
      ((s.pls.slot s.seq.pointer).written s.liveAfterPass .completed s.passMeasures) := by
  simp only [State.endStep]
  split
  · simp
  · simp only [State.moveOn]
    split
    · simp
    · simp [State.takeStep_pls]

/-- With the ends of the step carried out, the rest of what is due leaves the plan. -/
theorem State.settle_pls_of_ends {s : State} (due : s.due = true) (rests : s.settleEnds.inEffect = false) :
    s.settle.pls = s.settleEnds.pls := by
  rw [State.settle, if_pos due, State.LeavesPlan.rampEnds, (State.LeavesPlan.settleWraps rests).pls]

/-- A reset finds the step that has ended written back COMPLETED (R79). -/
theorem State.settle_pls_of_ending {s : State} {r : StepRecord} (ends : s.endingStep = some r)
    (quiet : s.ftu.tripDue = false) : s.settle.pls = (s.endStep r).pls := by
  have due : s.due = true := by simp [State.due, ends]
  have after : s.carryStepEnd = s.endStep r := by rw [State.carryStepEnd, ends]
  have rest : s.settleEnds = (s.endStep r).carryMarkerLimit.carryOwnTrip := by
    rw [State.settleEnds, if_neg (by simp [quiet]), after]
  have kept := (State.LeavesPlan.carryMarkerLimit (State.LeavesPlan.endStep_inEffect s r)).trans
    State.LeavesPlan.carryOwnTrip
  rw [State.settle_pls_of_ends due (by rw [rest]; exact kept.rests), rest, kept.pls]

/-- A trip of a step in effect writes it back TRIPPED (R91). -/
theorem State.trip_pls_of_inEffect {s : State} {r : StepRecord} (image : s.seq.image = some r)
    (state : s.seq.state = .active ∨ s.seq.state = .frozen) (c : TripCause) :
    (s.trip c).pls = s.pls.setSlot s.seq.pointer
      ((s.pls.slot s.seq.pointer).written false .tripped s.passMeasures) := by
  have image' : ((s.setFtu { s.ftu with tripCause := some c }).offerAll (.trip c s.seq.pointer)).seq.image = some r := by
    simpa using image
  have state' : ∀ q, s.seq.state = q →
      ((s.setFtu { s.ftu with tripCause := some c }).offerAll (.trip c s.seq.pointer)).seq.state = q := by
    intro q state
    simpa using state
  rw [State.trip_eq (by obtain state | state := state <;> simp [state]) (by obtain state | state := state <;> simp [state]),
    State.letGoWith, State.offerStatus_pls, State.setSeq_pls, State.letGo_pls,
    State.dropStep_of_inEffect image' (state.imp (state' _) (state' _)), State.pointToNext_pls, State.writeBack_pls]
  simp [State.passMeasures]

/-- A reset finds the step that an own trip has ended written back TRIPPED (R91, R151). -/
theorem State.settle_pls_of_own_trip {s : State} {r : StepRecord} (image : s.seq.image = some r)
    (state : s.seq.state = .active ∨ s.seq.state = .frozen) (ends : s.endingStep = none)
    (limit : s.seq.markerLimit = false) (trip : s.ftu.tripDue = true) :
    s.settle.pls = s.pls.setSlot s.seq.pointer
      ((s.pls.slot s.seq.pointer).written false .tripped s.passMeasures) := by
  have due : s.due = true := by simp [State.due, trip]
  have ended : s.settleEnds = (s.setFtu { s.ftu with tripDue := false }).trip .foldback := by
    have none : s.carryMarkerLimit = s := by simp [State.carryMarkerLimit, limit]
    have last : s.carryStepEnd = s := by rw [State.carryStepEnd, ends]
    rw [State.settleEnds, if_neg (by simp [ends]), last, none, State.carryOwnTrip, if_pos trip]
    simp only [none]
  have rests : s.settleEnds.inEffect = false := by
    obtain ⟨-, -, -⟩ := s.endsSettled_settleEnds
    rw [ended, State.trip, if_neg (by obtain state | state := state <;> simp [state])]
    simp [State.inEffect]
  rw [State.settle_pls_of_ends due rests, ended]
  exact State.trip_pls_of_inEffect (s := s.setFtu { s.ftu with tripDue := false }) image state .foldback

/-! ### Resets -/

/-- What the assertion of a reset kind discards at once (R158). -/
theorem State.assertReset_discards (s : State) (k : StartCause) : let t := s.assertReset k
    t.stc.phase = .asserted ∧ t.syn.dac = 0 ∧ t.syn.out = .dark ∧ t.syn.level = 0 ∧ t.syn.ramp = none
      ∧ t.syn.safe = none ∧ t.syn.pendingCopy = none ∧ (∀ i, t.ovl.slot i = .off) ∧ t.seq.out0 = false
      ∧ t.seq.out1 = false ∧ t.ctb.ramp = none ∧ t.jnt.gate = .idle ∧ t.lnk.queue = [] ∧ t.lnk.shifter = none
      ∧ t.lnk.assembling = false ∧ t.fbm.sumSquares = 0 ∧ t.fbm.samples = 0 ∧ t.ftu.streak = 0 ∧ t.pls = s.pls
      ∧ t.stc.setup = s.stc.setup ∧ t.pending = s.pending ∧ t.freeCount = s.freeCount :=
  ⟨rfl, rfl, rfl, rfl, rfl, rfl, rfl, fun i => Ovl.slot_allOff i, rfl, rfl, rfl, rfl, rfl, rfl, rfl, rfl, rfl, rfl, rfl,
    rfl, rfl, rfl⟩

/-- What is due before a reset leaves the queue of commands, and STC. -/
theorem State.settled_stc (s : State) : (if s.running then s.settle else s).stc = s.stc := by
  split <;> simp

theorem State.settled_pending (s : State) : (if s.running then s.settle else s).pending = s.pending := by
  split <;> simp

theorem State.settled_pls_of_nothing_due {s : State} (h : s.running = false ∨ s.due = false) :
    (if s.running then s.settle else s).pls = s.pls := by
  obtain h | h := h
  · simp [h]
  · simp [State.settle_of_not_due h]

/-- Each reset kind asserts itself after what is due. -/
theorem exec_reset {c : Instr} (kind : c = .powerOn ∨ c = .supplyLow ∨ c = .resetPin) (s : State) :
    ∃ k, exec c s = .next ((if s.running then s.settle else s).assertReset k) := by
  obtain rfl | rfl | rfl := kind
  · exact ⟨.powerOn, rfl⟩
  · exact ⟨.supplyLow, rfl⟩
  · exact ⟨.resetPin, rfl⟩

/-- The pending cause after an assertion. -/
theorem State.resetBy_pendingCause (s : State) (k : StartCause) :
    (s.resetBy k).stc.pendingCause = some (nextPendingCause s.stc.pendingCause k) := by
  rw [← s.settled_stc]
  rfl

/-- Settles O5: what is due is carried out, and then `State.assertReset` discards what is in flight. -/
theorem resetAssertionDiscardsWhatIsInFlight : Obligations.ResetAssertionDiscardsWhatIsInFlight := by
  unfold Obligations.ResetAssertionDiscardsWhatIsInFlight
  refine ⟨fun s c kind => ?_, fun s => ⟨⟨_, exec_powerOn s, ?_⟩, ⟨_, exec_supplyLow s, ?_⟩, _, exec_resetPin s, ?_⟩⟩
  · obtain ⟨k, runs⟩ := exec_reset kind s
    obtain ⟨phase, dac, out, level, ramp, safe, copy, ovl, out0, out1, frequency, gate, queue, shifter, assembling, sum,
      samples, streak, pls, setup, pending, free⟩ := State.assertReset_discards (if s.running then s.settle else s) k
    refine ⟨_, runs, phase, dac, out, level, ramp, safe, copy, ovl, out0, out1, frequency, gate, queue, shifter,
      assembling, sum, samples, streak, pls, setup.trans ?_, pending.trans s.settled_pending, free, fun nothing => ?_,
      fun r run limit image => ⟨fun ended quiet => ?_, fun unended trip state => ?_⟩⟩
    · exact congrArg Stc.setup s.settled_stc
    · exact pls.trans (State.settled_pls_of_nothing_due nothing)
    · refine pls.trans ?_
      rw [if_pos run, State.settle_pls_of_ending (State.endingStep_eq_some_iff.2 ⟨image, ended⟩) quiet,
        State.endStep_pls]
      rfl
    · refine pls.trans ?_
      have ends : s.endingStep = none := by
        refine Option.eq_none_iff_forall_ne_some.2 fun q ends => unended ?_
        obtain ⟨image', active, count⟩ := State.endingStep_eq_some_iff.1 ends
        obtain rfl := Option.some.inj (image'.symm.trans image)
        exact ⟨active, count⟩
      rw [if_pos run, State.settle_pls_of_own_trip image state ends limit trip]
      rfl
  · rw [State.resetBy_pendingCause]
    cases h : s.stc.pendingCause with
    | none => rfl
    | some q => cases q <;> rfl
  · rw [State.resetBy_pendingCause]
    cases h : s.stc.pendingCause with
    | none => rfl
    | some q => cases q <;> rfl
  · rw [State.resetBy_pendingCause]
    cases h : s.stc.pendingCause with
    | none => rfl
    | some q => cases q <;> rfl

end Sys2Proof.Machine
end

section
/-! PROOFS. The state at the end of the start sequence (O6) and the model's reset state (O7). -/

namespace Sys2Proof.Machine

/-- The start after POWER_ON with the model's straps is the reset state. -/
theorem startValues_atReset : (startValues Straps.atReset .powerOn Setup.default Pls.empty 0 []).offerStatus .start
    = State.reset := rfl

theorem Pls.slot_empty (i : Slot) : Pls.empty.slot i = StepRecord.empty := by
  simp [Pls.slot, Pls.empty]

theorem Pls.profile_empty (i : ProfileIndex) : Pls.empty.profile i = [] := by
  simp [Pls.profile, Pls.empty]

theorem State.reset_ready : State.reset.ready := ⟨rfl, by decide⟩

theorem State.reset_planFits : State.reset.planFits := by
  refine ⟨fun i => ?_, ?_, fun i => ?_, ?_⟩
  · rw [show State.reset.pls = Pls.empty from rfl, Pls.slot_empty]
    exact StepRecord.empty_fits
  · exact fun r image => nomatch image
  · rw [show State.reset.pls = Pls.empty from rfl, Pls.profile_empty]
    simp [profileFits]
  · exact fun i l copy => nomatch copy

theorem State.reset_outputFits : State.reset.outputFits := by
  refine ⟨State.reset_planFits, ⟨?_, ?_, ?_⟩, ⟨?_, ?_, ?_, ?_⟩⟩
  · exact Nat.zero_le _
  · exact fun r ramp => nomatch ramp
  · exact fun g safe => nomatch safe
  · exact ⟨by decide, by decide⟩
  · exact fun r ramp => nomatch ramp
  · exact ⟨by decide, by decide⟩
  · exact Nat.zero_le _

theorem State.reset_strangersStand : State.reset.strangersStand := by
  unfold State.strangersStand
  decide

theorem State.reset_consistent : State.reset.consistent := by
  refine (State.consistent_of_running rfl).2 ⟨?_, ?_, ?_, ?_, ?_, ?_, ?_⟩
  · exact fun h => absurd h (by decide)
  · exact fun h => absurd h (by decide)
  · exact fun h => nomatch h
  · exact fun h => nomatch h
  · exact fun h => nomatch h
  · exact ⟨fun h => absurd rfl h, fun h => nomatch h⟩
  · exact fun _ i => Ovl.slot_allOff i

theorem State.reset_ordered : State.reset.lnk.ordered := by
  refine ⟨by decide, by decide, List.pairwise_singleton _ _, ?_, ?_, fun x shifter => nomatch shifter⟩
  · simp [State.reset]
  · simp [State.reset, TxEntry.cls, Payload.cls]

/-- Settles O7. -/
theorem resetIsTheStartStateAndMeetsTheConditions : Obligations.ResetIsTheStartStateAndMeetsTheConditions := by
  unfold Obligations.ResetIsTheStartStateAndMeetsTheConditions
  refine ⟨fun s stage cause free pending => ?_, State.reset_ready, State.reset_ordered, State.reset_outputFits,
    ⟨by decide, by decide⟩, ⟨by decide, by decide⟩, ⟨by decide, by decide⟩, ⟨rfl, rfl, rfl, rfl⟩,
    State.reset_strangersStand, State.reset_consistent, fun stopped => nomatch (stopped : true = false)⟩
  rw [exec_oscillatorCountEnd, if_pos stage, ← startValues_atReset]
  simp [State.startUp, cause, free, pending]

/-! ### The end of the start sequence -/

section
variable {s : State} {straps : Straps}

/-- The one frame in the queue is the STATUS with cause START to ALL (R159). -/
theorem State.startUp_queue (s : State) (straps : Straps) : ∃ y : Summary,
    (s.startUp straps).lnk.queue = [{ order := 0, item := .frame 15 (.status y) }]
      ∧ (s.startUp straps).reports .start y :=
  ⟨_, rfl, State.reports_summary _ _⟩

theorem State.startUp_seq_state (s : State) (straps : Straps) : if straps.number.toNat < straps.count
    then (s.startUp straps).seq.state = .idle ∧ (s.startUp straps).seq.faultCause = .none
    else (s.startUp straps).seq.state = .faulted ∧ (s.startUp straps).seq.faultCause = .strap := by
  by_cases below : straps.number.toNat < straps.count
  · have legal : ¬ straps.number.toNat ≥ straps.count := by omega
    simp [below, State.startUp, startValues]
  · have fault : straps.number.toNat ≥ straps.count := by omega
    simp [below, State.startUp, startValues, fault]

/-- The blocks at the end of the start sequence after a cause (6.8, 9.6, 10.1, 11.2). -/
theorem State.startUp_causes {c : StartCause} (cause : s.stc.pendingCause = some c) : let t := s.startUp straps
    t.stc.startCause = c ∧ t.stc.setup = (if c = .resetPin then s.stc.setup else Setup.default)
      ∧ t.pls = (if c = .resetPin then s.pls else Pls.empty) := by
  have same : s.causeOfStart = c := by simp [State.causeOfStart, cause]
  refine ⟨same, ?_, ?_⟩
  · rw [State.startUp_stc, ← same]
    rfl
  · rw [State.startUp_pls, same]

end

end Sys2Proof.Machine
end

section
/-! PROOFS. The lock evaluation (O11, O12), the common wrap, and the state in which SEQ's work of a sample begins. -/

namespace Sys2Proof.Machine

/-! ### The evaluation of the lock -/

section
variable {s : State} {fBase : Nat}

/-- The lock of an evaluation with errors, before any capture (R125). -/
def State.lockAfter (s : State) : LockState :=
  nextLock s.lck.state (nextStreak s.lck.streak (s.freshErrors.map (·.2))) (s.freshErrors.map (·.2))

theorem State.evaluateLock_of_no_errors (h : s.freshErrors = []) :
    s.evaluateLock fBase = (s.setLck { s.lck with state := .alone, streak := 0 }).setCtb { s.ctb with c := 0 } := by
  have zero : s.ctb.writeC 0 = { s.ctb with c := 0 } := by
    rw [Ctb.writeC, clampAbs, if_neg (by omega), if_neg (by omega)]
  simp [State.evaluateLock, h, zero]

theorem State.evaluateLock_of_capture (h : s.freshErrors ≠ []) {e : Int} (capture : s.captureError s.lockAfter = some e) :
    s.evaluateLock fBase =
      (((s.setLck { s.lck with state := s.lockAfter, streak := 0 }).setCtb ((s.ctb.capture e).writeC 0)).setPtb
        (s.ptb.unfresh s.own)).setLnk { s.lnk with latch := { s.lnk.latch with captured := true } } := by
  have errors : (s.freshErrors.map (·.2)).isEmpty = false := by simpa using h
  unfold State.lockAfter at *
  simp [State.evaluateLock, errors, capture]

theorem State.evaluateLock_of_errors (h : s.freshErrors ≠ []) (capture : s.captureError s.lockAfter = none) :
    s.evaluateLock fBase =
      (s.setLck
        { s.lck with
          state := s.lockAfter, streak := nextStreak s.lck.streak (s.freshErrors.map (·.2))
          clampHit := s.lck.clampHit
            || (correction (s.freshErrors.map (·.2)) fBase s.gainShift).natAbs > fBase >>> 10 }).setCtb
        (s.ctb.writeC (clampAbs (fBase >>> 10 : Nat) (correction (s.freshErrors.map (·.2)) fBase s.gainShift))) := by
  have errors : (s.freshErrors.map (·.2)).isEmpty = false := by simpa using h
  unfold State.lockAfter at *
  simp [State.evaluateLock, errors, capture]

/-- A capture is made only while the output is DARK and SEQ rests, from a peer below the station's own number (R126). -/
theorem State.captureError_eq_some {lock : LockState} {e : Int} (h : s.captureError lock = some e) :
    s.syn.out = .dark
      ∧ (s.seq.state = .idle ∨ s.seq.state = .suspended ∨ s.seq.state = .tripped ∨ s.seq.state = .faulted)
      ∧ ∃ n : Station, s.expectedPeer n = true ∧ n.toNat < s.own.toNat ∧ (s.ptb.peer n).fresh = true
          ∧ (s.ptb.peer n).error = e ∧ 2 ^ 26 < e.natAbs := by
  unfold State.captureError at h
  split at h
  next passed =>
    simp only [Bool.and_eq_true, decide_eq_true_eq, Bool.or_eq_true] at passed
    obtain ⟨⟨-, dark⟩, rests⟩ := passed
    refine ⟨dark, by tauto, ?_⟩
    split at h
    next n e' first =>
      have below := List.find?_some first
      have mem := List.mem_of_find?_eq_some first
      simp only [State.freshErrors, List.mem_map, List.mem_filter, Bool.and_eq_true, Prod.mk.injEq] at mem
      obtain ⟨m, ⟨-, expected, fresh⟩, rfl, error⟩ := mem
      split at h
      next far =>
        obtain rfl := Option.some.inj h
        exact ⟨m, expected, by simpa using below, fresh, error, far⟩
      next => exact nomatch h
    next => exact nomatch h
  next => exact nomatch h

/-- Nothing can be captured from. -/
theorem State.captureError_of_noCapture (h : s.noCapture) (lock : LockState) : s.captureError lock = none := by
  refine Option.eq_none_iff_forall_ne_some.2 fun e captured => ?_
  obtain ⟨dark, -, n, expected, below, fresh, error, far⟩ := State.captureError_eq_some captured
  obtain live | near := h
  · exact live dark
  · exact absurd (near n expected below fresh) (by rw [error]; omega)

/-- An evaluation writes LCK and C; a capture writes θ, the freshness of the records and the start latch too. -/
theorem State.evaluateLock_ctb_theta (h : s.captureError s.lockAfter = none) :
    (s.evaluateLock fBase).ctb.theta = s.ctb.theta := by
  by_cases errors : s.freshErrors = []
  · rw [State.evaluateLock_of_no_errors errors]
    rfl
  · rw [State.evaluateLock_of_errors errors h]
    rfl

theorem State.evaluateLock_ptb (h : s.captureError s.lockAfter = none) : (s.evaluateLock fBase).ptb = s.ptb := by
  by_cases errors : s.freshErrors = []
  · rw [State.evaluateLock_of_no_errors errors]
    rfl
  · rw [State.evaluateLock_of_errors errors h]
    rfl

/-- Of LNK an evaluation reaches the start latch alone (R119). -/
theorem State.evaluateLock_lnk (s : State) (fBase : Nat) :
    ∃ l, (s.evaluateLock fBase).lnk = { s.lnk with latch := l } := by
  simp only [State.evaluateLock]
  split
  · exact ⟨_, rfl⟩
  · split
    · exact ⟨_, rfl⟩
    · exact ⟨_, rfl⟩

/-- An evaluation leaves presence, age, error and the tripped flag of every record. -/
theorem State.evaluateLock_peer (s : State) (fBase : Nat) (n : Station) :
    (s.evaluateLock fBase).ptb.peer n = { s.ptb.peer n with fresh := ((s.evaluateLock fBase).ptb.peer n).fresh } := by
  simp only [State.evaluateLock]
  split
  · rfl
  · split
    · simp only [State.setLnk_ptb, State.setPtb_ptb, Ptb.peer_unfresh]
      split <;> rfl
    · rfl

end

/-! ### The evaluation that waits -/

section
variable (s : State)

theorem State.carryEvaluation_lnk : ∃ l, s.carryEvaluation.lnk = { s.lnk with latch := l } := by
  unfold State.carryEvaluation
  split
  · split
    · exact ⟨_, rfl⟩
    · exact (s.setLck _).evaluateLock_lnk _
  · exact ⟨_, rfl⟩

theorem State.carryEvaluation_peer (n : Station) :
    s.carryEvaluation.ptb.peer n = { s.ptb.peer n with fresh := (s.carryEvaluation.ptb.peer n).fresh } := by
  unfold State.carryEvaluation
  split
  · split
    · rfl
    · exact (s.setLck _).evaluateLock_peer _ n
  · rfl

/-! ### The common wrap -/

/-- The state that a common wrap hands to the evaluation of the lock: the MARK offered, the records aged. -/
def State.marked (a : Advance) : State :=
  ((s.offer (.mark a.markInstant)).setPtb (s.ptb.aged s.own)).setLck { s.lck with waiting := some a.fBase }

theorem State.commonWrap_eq (a : Advance) : s.commonWrap a
    = if s.jnt.gate = .complete then
        (s.marked a).carryEvaluation.setJnt { s.jnt with angleTest := true }
      else (s.marked a).carryEvaluation := by
  have own : (s.offer (.mark a.markInstant)).own = s.own := by simp [State.own]
  have gate : (s.marked a).carryEvaluation.jnt = s.jnt := by simp [State.marked]
  have same : ((s.offer (.mark a.markInstant)).setPtb
      ((s.offer (.mark a.markInstant)).ptb.aged (s.offer (.mark a.markInstant)).own)).setLck
        { (s.offer (.mark a.markInstant)).lck with waiting := some a.fBase } = s.marked a := by
    rw [own]
    simp [State.marked]
  simp only [State.commonWrap, same, gate]

theorem State.commonWrap_jnt (a : Advance) : (s.commonWrap a).jnt
    = if s.jnt.gate = .complete then { s.jnt with angleTest := true } else s.jnt := by
  rw [State.commonWrap_eq]
  split
  · rfl
  · simp [State.marked]

theorem State.commonWrap_lnk (a : Advance) :
    ∃ l, (s.commonWrap a).lnk = { s.lnk.offer (.mark a.markInstant) with latch := l } := by
  obtain ⟨l, latched⟩ := (s.marked a).carryEvaluation_lnk
  have lnk : (s.marked a).carryEvaluation.lnk = { s.lnk.offer (.mark a.markInstant) with latch := l } := latched
  rw [State.commonWrap_eq]
  split
  · exact ⟨l, lnk⟩
  · exact ⟨l, lnk⟩

theorem State.commonWrap_carryEvaluation (a : Advance) : (s.commonWrap a).ctb = (s.marked a).carryEvaluation.ctb
    ∧ (s.commonWrap a).ptb = (s.marked a).carryEvaluation.ptb
    ∧ (s.commonWrap a).lck = (s.marked a).carryEvaluation.lck := by
  rw [State.commonWrap_eq]
  split <;> exact ⟨rfl, rfl, rfl⟩

/-- A common wrap ages the records, and a capture on it ends their freshness; all else of them stands (R14, R122). -/
theorem State.commonWrap_peer (a : Advance) (n : Station) : (s.commonWrap a).ptb.peer n
    = { (s.ptb.aged s.own).peer n with fresh := ((s.commonWrap a).ptb.peer n).fresh } := by
  rw [(s.commonWrap_carryEvaluation a).2.1]
  exact (s.marked a).carryEvaluation_peer n

end

/-! ### The state in which SEQ's work of a sample begins -/

section
variable (s : State) (x : SampleInputs)

/-- CTB's advance and the work of a common wrap. -/
def State.atAdvance : State :=
  if s.ctb.nextAdvance.commonWrap then (s.setCtb s.ctb.advance).commonWrap s.ctb.nextAdvance else s.setCtb s.ctb.advance

/-- And the work of an own wrap: SEQ's work of the sample comes next. -/
def State.atWork : State := if s.ctb.nextAdvance.ownWrap then s.atAdvance.ownWrap x else s.atAdvance

@[simp] theorem State.atAdvance_stc : s.atAdvance.stc = s.stc := by unfold State.atAdvance; split <;> simp
@[simp] theorem State.atAdvance_syn : s.atAdvance.syn = s.syn := by unfold State.atAdvance; split <;> simp
@[simp] theorem State.atAdvance_ovl : s.atAdvance.ovl = s.ovl := by unfold State.atAdvance; split <;> simp
@[simp] theorem State.atAdvance_pls : s.atAdvance.pls = s.pls := by unfold State.atAdvance; split <;> simp
@[simp] theorem State.atAdvance_seq : s.atAdvance.seq = s.seq := by unfold State.atAdvance; split <;> simp
@[simp] theorem State.atAdvance_fbm : s.atAdvance.fbm = s.fbm := by unfold State.atAdvance; split <;> simp
@[simp] theorem State.atAdvance_ftu : s.atAdvance.ftu = s.ftu := by unfold State.atAdvance; split <;> simp
@[simp] theorem State.atAdvance_freeCount : s.atAdvance.freeCount = s.freeCount := by unfold State.atAdvance; split <;> simp
@[simp] theorem State.atAdvance_pending : s.atAdvance.pending = s.pending := by unfold State.atAdvance; split <;> simp

theorem State.atAdvance_jnt : s.atAdvance.jnt
    = if s.ctb.nextAdvance.commonWrap ∧ s.jnt.gate = .complete then { s.jnt with angleTest := true } else s.jnt := by
  unfold State.atAdvance
  split
  next wrap =>
    rw [State.commonWrap_jnt]
    by_cases gate : s.jnt.gate = .complete <;> simp [wrap, gate]
  next wrap => simp [wrap]

theorem State.atAdvance_lnk : ∃ l, s.atAdvance.lnk = if s.ctb.nextAdvance.commonWrap
    then { s.lnk.offer (.mark s.ctb.nextAdvance.markInstant) with latch := l } else s.lnk := by
  unfold State.atAdvance
  split
  · exact (s.setCtb s.ctb.advance).commonWrap_lnk _
  · exact ⟨s.lnk.latch, rfl⟩

theorem State.atAdvance_ctb : s.atAdvance.ctb
    = { s.ctb.advance with theta := s.atAdvance.ctb.theta, c := s.atAdvance.ctb.c } := by
  unfold State.atAdvance
  split
  · exact (s.setCtb s.ctb.advance).commonWrap_ctb _
  · rfl

@[simp] theorem State.atWork_stc : (s.atWork x).stc = s.stc := by unfold State.atWork; split <;> simp
@[simp] theorem State.atWork_ovl : (s.atWork x).ovl = s.ovl := by unfold State.atWork; split <;> simp
@[simp] theorem State.atWork_jnt : (s.atWork x).jnt = s.atAdvance.jnt := by unfold State.atWork; split <;> simp
@[simp] theorem State.atWork_lnk : (s.atWork x).lnk = s.atAdvance.lnk := by unfold State.atWork; split <;> simp
@[simp] theorem State.atWork_ctb : (s.atWork x).ctb = s.atAdvance.ctb := by unfold State.atWork; split <;> simp
@[simp] theorem State.atWork_ptb : (s.atWork x).ptb = s.atAdvance.ptb := by unfold State.atWork; split <;> simp
@[simp] theorem State.atWork_lck : (s.atWork x).lck = s.atAdvance.lck := by unfold State.atWork; split <;> simp
@[simp] theorem State.atWork_freeCount : (s.atWork x).freeCount = s.freeCount := by unfold State.atWork; split <;> simp
@[simp] theorem State.atWork_pending : (s.atWork x).pending = s.pending := by unfold State.atWork; split <;> simp

theorem State.atWork_seq : (s.atWork x).seq
    = { s.seq with in0 := if s.ctb.nextAdvance.ownWrap then x.in0 else s.seq.in0
                   in1 := if s.ctb.nextAdvance.ownWrap then x.in1 else s.seq.in1 } := by
  unfold State.atWork
  split
  · simp [State.ownWrap]
  · simp

theorem State.applyPending_syn : s.applyPending.syn = { s.syn with pendingCopy := none } := by
  unfold State.applyPending
  split
  · rfl
  next none => rw [← none]

theorem State.atWork_syn : (s.atWork x).syn
    = { s.syn with pendingCopy := if s.ctb.nextAdvance.ownWrap then none else s.syn.pendingCopy } := by
  unfold State.atWork
  split
  · simp [State.ownWrap, State.applyPending_syn]
  · simp

/-- What a sample makes of FTU before SEQ's work: the fold test of an own wrap (R150, R151). -/
theorem State.atWork_ftu : (s.atWork x).ftu
    = if s.ctb.nextAdvance.ownWrap then s.closeFold.ftu else s.ftu := by
  have cycle : s.atAdvance.closeCycle.closeFold.ftu = s.closeFold.ftu := by
    simp [State.closeFold, State.cycleFolded]
    split
    · simp
    · split <;> simp
  unfold State.atWork
  split
  next wrap => simp [State.ownWrap, cycle]
  next wrap => simp

theorem State.atWork_fbm : (s.atWork x).fbm
    = if s.ctb.nextAdvance.ownWrap then s.closeCycle.fbm else s.fbm := by
  unfold State.atWork
  split
  · simp [State.closeCycle]
  · simp

end

end Sys2Proof.Machine
end

section
/-! PROOFS. What falls on a sample, as the state in which SEQ's work begins shows it. -/

namespace Sys2Proof.Machine

section
variable {s : State}

theorem PeerRecord.aged_tripped (r : PeerRecord) : r.aged.tripped = r.tripped := by
  unfold PeerRecord.aged
  split <;> rfl

theorem PeerRecord.aged_of_present {r : PeerRecord} (h : r.state ≠ .absent) :
    r.aged = { r with age := min 255 (r.age + 1), fresh := r.fresh && min 255 (r.age + 1) < 3 } := by
  rw [PeerRecord.aged, if_neg h]
  rfl

theorem Ptb.peer_aged_state (p : Ptb) (own n : Station) : ((p.aged own).peer n).state = (p.peer n).state := by
  rw [Ptb.peer_aged]
  split
  · rfl
  · exact PeerRecord.aged_state _

theorem Ptb.peer_aged_tripped (p : Ptb) (own n : Station) : ((p.aged own).peer n).tripped = (p.peer n).tripped := by
  rw [Ptb.peer_aged]
  split
  · rfl
  · exact PeerRecord.aged_tripped _

/-! ### The records -/

theorem State.atAdvance_peer (s : State) (n : Station) : s.atAdvance.ptb.peer n
    = { (if s.ctb.nextAdvance.commonWrap then (s.ptb.aged s.own).peer n else s.ptb.peer n) with
        fresh := (s.atAdvance.ptb.peer n).fresh } := by
  unfold State.atAdvance
  split
  · exact (s.setCtb s.ctb.advance).commonWrap_peer _ n
  · rfl

theorem State.atAdvance_peer_state (s : State) (n : Station) :
    (s.atAdvance.ptb.peer n).state = (s.ptb.peer n).state := by
  rw [State.atAdvance_peer]
  dsimp only
  split
  · exact Ptb.peer_aged_state _ _ _
  · rfl

theorem State.atAdvance_peer_tripped (s : State) (n : Station) :
    (s.atAdvance.ptb.peer n).tripped = (s.ptb.peer n).tripped := by
  rw [State.atAdvance_peer]
  dsimp only
  split
  · exact Ptb.peer_aged_tripped _ _ _
  · rfl

theorem State.own_congr {s t : State} (h : t.stc = s.stc) : t.own = s.own := by rw [State.own, State.own, h]

theorem State.troubled_congr {s t : State} (stc : t.stc = s.stc)
    (state : ∀ n, (t.ptb.peer n).state = (s.ptb.peer n).state)
    (tripped : ∀ n, (t.ptb.peer n).tripped = (s.ptb.peer n).tripped) : t.troubled = s.troubled := by
  unfold State.troubled PeerRecord.troubled
  simp only [State.own_congr stc, state, tripped]

variable (x : SampleInputs)

theorem State.atWork_troubled (s : State) : (s.atWork x).troubled = s.troubled :=
  State.troubled_congr (s.atWork_stc x) (fun n => by rw [State.atWork_ptb, State.atAdvance_peer_state])
    fun n => by rw [State.atWork_ptb, State.atAdvance_peer_tripped]

/-! ### Losses and trips -/

theorem State.lossDue_atWork_iff (wrap : s.ctb.nextAdvance.commonWrap = true) {n : Station} :
    (s.atWork x).lossDue n = true ↔ s.expectedPeer n = true ∧ (s.ptb.peer n).state = .present
      ∧ 7 ≤ (s.ptb.peer n).age := by
  have count : (s.atWork x).count = s.count := by rw [State.count, State.count, State.atWork_stc]
  have own : (s.atWork x).own = s.own := State.own_congr (s.atWork_stc x)
  rw [State.lossDue_iff, count, own, State.atWork_ptb, State.atAdvance_peer_state]
  rw [State.expectedPeer, Bool.and_eq_true, decide_eq_true_eq, decide_eq_true_eq, and_assoc]
  refine and_congr_right fun below => and_congr_right fun other => and_congr_right fun present => ?_
  have age : (s.atAdvance.ptb.peer n).age = min 255 ((s.ptb.peer n).age + 1) := by
    rw [State.atAdvance_peer]
    simp [wrap, Ptb.peer_aged, other, PeerRecord.aged_of_present (r := s.ptb.peer n) (by simp [present])]
  rw [age]
  omega

/-- The sample makes a loss just when one is ahead (R122). -/
theorem State.anyLossDue_atWork_iff (h : s.ready) : (s.atWork x).anyLossDue = true ↔ s.lossAhead := by
  cases wrap : s.ctb.nextAdvance.commonWrap with
  | true =>
    simp only [State.anyLossDue_iff, State.lossAhead, wrap, true_and]
    exact exists_congr fun n => State.lossDue_atWork_iff x wrap
  | false =>
    have none : (s.atWork x).anyLossDue = s.anyLossDue := by
      refine State.anyLossDue_congr fun n => State.lossDue_congr (s.atWork_stc x) ?_ ?_
      · rw [State.atWork_ptb, State.atAdvance_peer_state]
      · rw [State.atWork_ptb, State.atAdvance_peer]
        simp [wrap]
    obtain ⟨-, -, -, loss, -⟩ := h.nothing_due
    simp [none, loss, State.lossAhead, wrap]

theorem State.closeFold_tripDue_iff (h : s.ftu.tripDue = false) : s.closeFold.ftu.tripDue = true ↔
    s.syn.out ≠ .dark ∧ s.ftu.phi < 1024 ∧ s.ftu.tripCycles ≠ 0 ∧ s.ftu.tripCycles ≤ min 255 (s.ftu.streak + 1)
      ∧ s.seq.state ≠ .tripped ∧ s.seq.state ≠ .faulted := by
  unfold State.closeFold State.cycleFolded
  by_cases dark : s.syn.out = .dark
  · simp [dark, h]
  · by_cases folded : s.ftu.phi < 1024
    · simp [dark, folded, satAdd, and_assoc]
    · simp [dark, folded, h]

/-- The sample makes an own trip due just when one is ahead (R151). -/
theorem State.tripDue_atWork_iff (h : s.ready) : (s.atWork x).ftu.tripDue = true ↔ s.tripAhead := by
  obtain ⟨-, -, trip, -⟩ := h.nothing_due
  rw [State.atWork_ftu, State.tripAhead]
  cases wrap : s.ctb.nextAdvance.ownWrap with
  | true => simpa using State.closeFold_tripDue_iff trip
  | false => simp [trip]

theorem State.closeFold_stepPolicy (s : State) : s.closeFold.ftu.stepPolicy = s.ftu.stepPolicy := by
  unfold State.closeFold
  split
  · rfl
  · split <;> rfl

theorem State.atWork_inEffect (s : State) : (s.atWork x).inEffect = s.inEffect := by
  simp [State.inEffect, State.atWork_seq]

theorem State.atWork_policyInForce (s : State) : (s.atWork x).policyInForce = s.policyInForce := by
  have policy : (s.atWork x).ftu.stepPolicy = s.ftu.stepPolicy := by
    rw [State.atWork_ftu]
    split
    · exact s.closeFold_stepPolicy
    · rfl
  simp [State.policyInForce, State.atWork_inEffect, policy]

theorem State.atWork_mayWork (s : State) : (s.atWork x).mayWork = s.mayWork := by
  simp [State.mayWork, State.atWork_seq]

/-! ### The start sample and the end of the step -/

theorem State.starting_atWork_iff {r : StepRecord} :
    (s.atWork x).starting s.ctb.nextAdvance = some r ↔ s.startsOn r := by
  rw [State.starting_eq_some_iff, State.startsOn, State.atWork_seq, State.atWork_jnt, State.atAdvance_jnt]
  refine and_congr_right fun image => and_congr_right fun met => or_congr_right ?_
  refine and_congr_right fun gathering => ?_
  by_cases wrap : s.ctb.nextAdvance.commonWrap = true <;> by_cases gate : s.jnt.gate = .complete <;> simp [wrap, gate]

theorem State.starting_atWork_eq_none (h : s.noStart) : (s.atWork x).starting s.ctb.nextAdvance = none :=
  Option.eq_none_iff_forall_ne_some.2 fun r starts => h r ((State.starting_atWork_iff x).1 starts)

theorem State.endsOn_atWork_iff : (s.atWork x).endsOn s.ctb.nextAdvance = true ↔ s.endsNext := by
  rw [State.endsOn_iff, State.endsNext, State.atWork_troubled]
  have progress : ∀ r, (s.atWork x).progressAfter s.ctb.nextAdvance r
      = s.seq.progress + (if r.unit = .samples ∨ s.ctb.nextAdvance.ownWrap = true then 1 else 0) := by
    intro r
    rw [State.progressAfter, State.atWork_seq]
    by_cases counts : r.unit = .samples ∨ s.ctb.nextAdvance.ownWrap = true
    · rw [if_pos counts, if_pos (by simpa using counts)]
    · rw [if_neg counts, if_neg (by simpa using counts)]
      rfl
  simp only [State.atWork_seq, progress]
  rfl

theorem State.tripMeetsWork_atWork_iff (h : s.ready) :
    (s.atWork x).tripMeetsWork s.ctb.nextAdvance = true ↔ s.tripDisputed := by
  rw [State.tripMeetsWork, Bool.and_eq_true, State.tripDue_atWork_iff x h, Bool.or_eq_true, Bool.or_eq_true,
    State.endsOn_atWork_iff, State.tripDisputed, State.atWork_seq]
  simp only [decide_eq_true_eq, or_assoc]

theorem State.lossMeetsWork_atWork_iff (h : s.ready) : (s.atWork x).lossMeetsWork = true ↔
    s.mayWork = true ∧ s.lossAhead ∧ ¬ (s.policyInForce = .follow ∧ s.tripAhead) := by
  rw [State.lossMeetsWork, Bool.and_eq_true, Bool.and_eq_true, State.anyLossDue_atWork_iff x h, State.atWork_mayWork,
    State.atWork_policyInForce, and_assoc, ← State.tripDue_atWork_iff x h]
  cases (s.atWork x).ftu.tripDue <;> simp

/-- On a sample with no order open SEQ's work of it is all there is. -/
theorem State.orderedWork_atWork_of_undisputed (h : s.ready) (k : s.undisputed) :
    (s.atWork x).orderedWork s.ctb.nextAdvance = (s.atWork x).stepWork s.ctb.nextAdvance := by
  obtain ⟨trip, loss⟩ := k
  refine State.orderedWork_of_undisputed _ _ ?_ ?_
  · simpa using (State.tripMeetsWork_atWork_iff x h).not.2 trip
  · exact (Bool.eq_false_iff).2 fun meets => loss ⟨((State.lossMeetsWork_atWork_iff x h).1 meets).1,
      ((State.lossMeetsWork_atWork_iff x h).1 meets).2.1⟩

end

end Sys2Proof.Machine
end

section
/-! PROOFS. SEQ's work of a sample, block by block: the work of a step (`State.stepWork`), the work withheld, and the
losses that may come before it. -/

namespace Sys2Proof.Machine

section
variable (v : State) (a : Advance)

/-! ### The test of the records and the count of the cycle -/

/-- The state in which a step starts, or its work goes on: the records tested, the cycle counted, the tones advanced. -/
def State.prepared : State := (v.freezeRetest.countCycle a).setOvl v.ovl.advance

/-- The retest may freeze the step, and is over (R89). -/
theorem State.freezeRetest_seq : v.freezeRetest.seq = { v.seq with
    retest := false
    state := if v.seq.retest ∧ v.seq.image.isSome ∧ v.seq.state = .active ∧ v.troubled then .frozen else v.seq.state } := by
  have tested : (v.setSeq { v.seq with retest := false }).inEffect = v.inEffect := rfl
  have troubled : (v.setSeq { v.seq with retest := false }).troubled = v.troubled := rfl
  unfold State.freezeRetest
  cases retest : v.seq.retest with
  | false =>
    rw [if_neg (by decide), if_neg (by simp)]
    rw [← retest]
  | true =>
    simp only [if_true, tested, troubled, true_and]
    by_cases trouble : v.inEffect = true ∧ v.troubled = true
    · rw [if_pos (by simpa using trouble)]
      simp only [State.inEffect, Bool.and_eq_true, Bool.or_eq_true, decide_eq_true_eq] at trouble
      obtain ⟨⟨active | frozen, image⟩, troubled⟩ := trouble
      · simp [State.freeze, active, image, troubled]
      · simp [State.freeze, frozen]
    · rw [if_neg (by simpa using trouble), if_neg ?_]
      · rfl
      · rintro ⟨image, active, troubled⟩
        exact trouble ⟨by simp [State.inEffect, active, image], troubled⟩

/-- The count of a cycle adds to SEQ's tally alone. -/
theorem State.countCycle_seq : (v.countCycle a).seq
    = { v.seq with tally := if a.ownWrap && v.inEffect then v.seq.tally.count v.fbm.lastLrms else v.seq.tally } := by
  unfold State.countCycle
  split <;> rfl

theorem State.countCycle_ftu : (v.countCycle a).ftu
    = { v.ftu with foldedCycles := if a.ownWrap && v.inEffect && v.cycleFolded then satAdd 255 v.ftu.foldedCycles 1
                     else v.ftu.foldedCycles } := by
  unfold State.countCycle
  by_cases counts : (a.ownWrap && v.inEffect) = true
  · rw [if_pos counts, counts]
    rfl
  · rw [if_neg counts]
    simp [Bool.eq_false_iff.2 counts]

theorem State.freezeRetest_inEffect : v.freezeRetest.inEffect = v.inEffect := by
  rw [State.inEffect, State.inEffect, State.freezeRetest_seq]
  dsimp only
  split
  next frozen => simp [frozen.2.2.1]
  next => rfl

theorem State.prepared_seq : (v.prepared a).seq = { v.seq with
    retest := false
    state := if v.seq.retest ∧ v.seq.image.isSome ∧ v.seq.state = .active ∧ v.troubled then .frozen else v.seq.state
    tally := if a.ownWrap && v.inEffect then v.seq.tally.count v.fbm.lastLrms else v.seq.tally } := by
  rw [State.prepared, State.setOvl_seq, State.countCycle_seq, State.freezeRetest_inEffect, State.freezeRetest_fbm,
    State.freezeRetest_seq]

theorem State.prepared_inEffect : (v.prepared a).inEffect = v.inEffect := by
  rw [← State.freezeRetest_inEffect v]
  rw [State.inEffect, State.inEffect, State.prepared, State.setOvl_seq, State.countCycle_seq]

theorem State.prepared_ftu : (v.prepared a).ftu
    = { v.ftu with foldedCycles := if a.ownWrap && v.inEffect && v.cycleFolded then satAdd 255 v.ftu.foldedCycles 1
                     else v.ftu.foldedCycles } := by
  have folded : v.freezeRetest.cycleFolded = v.cycleFolded := by simp [State.cycleFolded]
  rw [State.prepared, State.setOvl_ftu, State.countCycle_ftu, State.freezeRetest_inEffect, folded,
    State.freezeRetest_ftu]

@[simp] theorem State.prepared_stc : (v.prepared a).stc = v.stc := by simp [State.prepared]
@[simp] theorem State.prepared_ctb : (v.prepared a).ctb = v.ctb := by simp [State.prepared]
@[simp] theorem State.prepared_syn : (v.prepared a).syn = v.syn := by simp [State.prepared]
@[simp] theorem State.prepared_ovl : (v.prepared a).ovl = v.ovl.advance := by simp [State.prepared]
@[simp] theorem State.prepared_pls : (v.prepared a).pls = v.pls := by simp [State.prepared]
@[simp] theorem State.prepared_jnt : (v.prepared a).jnt = v.jnt := by
  simp only [State.prepared, State.setOvl_jnt, State.countCycle_jnt, State.freezeRetest]
  split
  · split
    · simp
    · rfl
  · rfl
@[simp] theorem State.prepared_ptb : (v.prepared a).ptb = v.ptb := by simp [State.prepared]
@[simp] theorem State.prepared_lck : (v.prepared a).lck = v.lck := by simp [State.prepared]
@[simp] theorem State.prepared_fbm : (v.prepared a).fbm = v.fbm := by simp [State.prepared]
@[simp] theorem State.prepared_freeCount : (v.prepared a).freeCount = v.freeCount := by simp [State.prepared]
@[simp] theorem State.prepared_pending : (v.prepared a).pending = v.pending := by simp [State.prepared]

/-- Without a freeze the tests before SEQ's work offer nothing. -/
theorem State.prepared_lnk (h : v.seq.retest = false ∨ v.seq.state ≠ .active) : (v.prepared a).lnk = v.lnk := by
  simp only [State.prepared, State.setOvl_lnk, State.countCycle_lnk, State.freezeRetest]
  split
  next retest =>
    obtain none | other := h
    · simp [none] at retest
    · split
      · rw [State.freeze, if_neg (by exact other)]
        rfl
      · rfl
  next => rfl

/-- The test of the records starts no step and keeps none from starting. -/
theorem State.prepared_starting : (v.prepared a).starting a = v.starting a := by
  refine Option.ext fun r => ?_
  rw [State.starting_eq_some_iff, State.starting_eq_some_iff, State.prepared_seq, State.prepared_jnt]
  dsimp only
  split
  next frozen => simp [frozen.2.2.1]
  next => rfl

/-! ### SEQ's work without a start -/

section
variable {v a}

theorem State.stepWork_of_no_start (none : v.starting a = none) :
    v.stepWork a = (v.prepared a).rampProgress.seqProgress a := by
  have same : ((v.freezeRetest.countCycle a).setOvl v.ovl.advance).starting a = Option.none :=
    (v.prepared_starting a).trans none
  simp only [State.stepWork, State.prepared]
  rw [same]

theorem State.stepWork_of_starting {r : StepRecord} (starts : v.starting a = some r) :
    v.stepWork a = (v.prepared a).startStep a r := by
  have same : ((v.freezeRetest.countCycle a).setOvl v.ovl.advance).starting a = some r :=
    (v.prepared_starting a).trans starts
  simp only [State.stepWork, State.prepared]
  rw [same]

end

/-- SEQ's progress counts the duration, or opens the await gate: SEQ enters no FROZEN, and leaves none (R74, R78). -/
theorem State.seqProgress_seq : (v.seqProgress a).seq = { v.seq with
    state := (v.seqProgress a).seq.state
    progress := (v.seqProgress a).seq.progress
    awaitOpen := (v.seqProgress a).seq.awaitOpen } := by
  unfold State.seqProgress
  split
  · rfl
  · split
    · rfl
    · split
      · dsimp only
        split <;> simp [State.enterGathering]
      · rfl
    · rfl

theorem State.seqProgress_state : (v.seqProgress a).seq.state = v.seq.state
    ∨ (v.seq.state = .armed ∧ (v.seqProgress a).seq.state = .gathering) := by
  unfold State.seqProgress
  split
  · exact .inl rfl
  · split
    · exact .inl rfl
    next armed =>
      split
      · dsimp only
        split
        · exact .inr ⟨armed, by simp [State.enterGathering]⟩
        · exact .inl rfl
      · exact .inl rfl
    · exact .inl rfl

theorem State.seqProgress_frozen : ((v.seqProgress a).seq.state = .frozen) = (v.seq.state = .frozen) := by
  obtain same | ⟨armed, gathering⟩ := v.seqProgress_state a
  · rw [same]
  · simp [armed, gathering]

theorem State.seqProgress_inEffect : (v.seqProgress a).inEffect = v.inEffect := by
  rw [State.inEffect, State.inEffect, State.seqProgress_seq]
  obtain same | ⟨armed, gathering⟩ := v.seqProgress_state a
  · simp [same]
  · simp [armed, gathering]

end

end Sys2Proof.Machine
end

section
/-! PROOFS. A sample event, block by block: SEQ's work of it, whatever order is drawn, is the work of one state. -/

namespace Sys2Proof.Machine

/-! ### What the losses leave of the gate -/

/-- The gate stands, or a loss has made an OPEN gate withdraw (R136). -/
def Jnt.withdrawsFrom (j k : Jnt) : Prop := k = j ∨ (j.gate = .opened ∧ k.gate = .withdrawing)

theorem Jnt.withdrawsFrom.trans {i j k : Jnt} (h : i.withdrawsFrom j) (g : j.withdrawsFrom k) : i.withdrawsFrom k := by
  obtain rfl | ⟨opened, withdrawing⟩ := h
  · exact g
  · obtain rfl | ⟨still, -⟩ := g
    · exact .inr ⟨opened, withdrawing⟩
    · rw [withdrawing] at still
      exact nomatch still

theorem State.maskedTrouble_gate (s : State) (n : Station) (r : WithdrawReason) :
    s.jnt.withdrawsFrom (s.maskedTrouble n r).jnt := by
  unfold State.maskedTrouble
  split
  next masked =>
    simp only [Bool.and_eq_true, decide_eq_true_eq] at masked
    exact .inr ⟨masked.1.1, by simp [State.withdraw]⟩
  next => exact .inl rfl

theorem State.applyPolicy_gate {s : State} (mild : s.policyInForce ≠ .follow) (c : TripCause) :
    (s.applyPolicy c).jnt = s.jnt := by
  unfold State.applyPolicy
  split
  · rfl
  · split
    next follow => exact absurd follow mild
    · simp
    · rfl

theorem State.peerTrouble_gate {s : State} (mild : s.policyInForce ≠ .follow) (n : Station) (c : TripCause)
    (r : WithdrawReason) : s.jnt.withdrawsFrom (s.peerTrouble n c r).jnt := by
  have one : (s.jnt.gate = .opened && maskHas s.jnt.mask n && !s.peerEventExcluded && s.policyInForce = .follow)
      = false := by simp [mild]
  unfold State.peerTrouble
  rw [if_neg (by simp [mild]), State.applyPolicy_gate (by rwa [(State.Mild.maskedTrouble s n r).policyInForce])]
  exact s.maskedTrouble_gate n r

theorem State.carryLoss_gate {s : State} (mild : s.policyInForce ≠ .follow) (n : Station) :
    s.jnt.withdrawsFrom (s.carryLoss n).jnt := by
  cases due : s.lossDue n with
  | false =>
    rw [State.carryLoss_of_not_due due]
    exact .inl rfl
  | true =>
    obtain ⟨p, lost⟩ : ∃ p, p = s.ptb.setPeer n { s.ptb.peer n with state := .lost } := ⟨_, rfl⟩
    have same : (s.setPtb p).policyInForce ≠ .follow := by rwa [(State.Mild.setPtb s p).policyInForce]
    have kept := State.peerTrouble_gate same n .peerLost .peerLost
    rw [State.carryLoss_of_due due, ← lost]
    rwa [State.setPtb_jnt] at kept

theorem State.carryLosses_gate {s : State} (mild : s.policyInForce ≠ .follow) :
    s.jnt.withdrawsFrom s.carryLosses.jnt := by
  have kept := List.foldlRecOn stations State.carryLoss
    (motive := fun t : State => s.Mild t ∧ s.jnt.withdrawsFrom t.jnt) (b := s) ⟨.refl s, .inl rfl⟩
    fun t k n _ =>
      have mild' : t.policyInForce ≠ .follow := by rwa [k.1.policyInForce]
      ⟨k.1.trans (State.Mild.carryLoss mild' n), k.2.trans (State.carryLoss_gate mild' n)⟩
  exact kept.2

/-! ### The state that works -/

/-- CTB with the correction that an evaluation of the lock writes (R10). -/
def Ctb.setC (c : Ctb) (v : Int) : Ctb := { c with c := v }

@[simp] theorem Ctb.setC_self (c : Ctb) : c.setC c.c = c := rfl

@[simp] theorem Ctb.setC_setC (c : Ctb) (v w : Int) : (c.setC v).setC w = c.setC w := rfl

/-- The state in which SEQ does its work of a sample: the losses that come before it may have frozen the step, marked
records LOST, withdrawn the gate and been followed by the evaluation of the lock; all else is as it was (R89, R136). -/
structure State.Ahead (v u : State) : Prop where
  stc : u.stc = v.stc
  syn : u.syn = v.syn
  ovl : u.ovl = v.ovl
  pls : u.pls = v.pls
  fbm : u.fbm = v.fbm
  ftu : u.ftu = v.ftu
  pending : u.pending = v.pending
  ctb : u.ctb = v.ctb.setC u.ctb.c
  seq : u.seq = { v.seq with state := u.seq.state }
  state : freezesOrThaws v.seq.state u.seq.state
  gate : v.jnt.withdrawsFrom u.jnt

namespace State.Ahead

variable {v u : State} {a : Advance}

theorem setFreeCount (v : State) (n : Nat) : v.Ahead (v.setFreeCount n) :=
  ⟨rfl, rfl, rfl, rfl, rfl, rfl, rfl, rfl, rfl, .inl rfl, .inl rfl⟩

theorem image (h : v.Ahead u) : u.seq.image = v.seq.image := by rw [h.seq]

theorem inEffect (h : v.Ahead u) : u.inEffect = v.inEffect := by
  have state := h.state
  unfold freezesOrThaws at state
  unfold State.inEffect
  rw [h.image]
  grind

theorem starting (h : v.Ahead u) : u.starting a = v.starting a := by
  refine Option.ext fun r => ?_
  rw [State.starting_eq_some_iff, State.starting_eq_some_iff, h.seq]
  dsimp only
  obtain same | ⟨before, after⟩ := h.state
  · rw [same]
    obtain gate | ⟨opened, withdrawing⟩ := h.gate
    · rw [gate]
    · simp [opened, withdrawing]
  · have not : ∀ q : SeqState, (q = .active ∨ q = .frozen) → q ≠ .armed ∧ q ≠ .gathering := by
      intro q among
      obtain rfl | rfl := among <;> simp
    simp [not _ before, not _ after]

end State.Ahead

/-- A capture moves θ, and SEQ is at rest then (R126). -/
theorem State.captureError_of_state {s : State} (h : s.seq.state ≠ .idle ∧ s.seq.state ≠ .suspended
    ∧ s.seq.state ≠ .tripped ∧ s.seq.state ≠ .faulted) (lock : LockState) : s.captureError lock = none := by
  refine Option.eq_none_iff_forall_ne_some.2 fun e captured => ?_
  obtain ⟨-, rests, -⟩ := State.captureError_eq_some captured
  obtain ⟨idle, suspended, tripped, faulted⟩ := h
  tauto

theorem State.carryEvaluation_theta {s : State} (h : ∀ lock, s.captureError lock = none) :
    s.carryEvaluation.ctb.theta = s.ctb.theta := by
  unfold State.carryEvaluation
  split
  · split
    · rfl
    · exact State.evaluateLock_ctb_theta (s := s.setLck { s.lck with waiting := none }) (h _)
  · rfl

/-- SEQ is about to work: it is not at rest. -/
theorem State.not_at_rest {s : State} (works : s.mayWork = true ∨ s.seq.state = .frozen) :
    s.seq.state ≠ .idle ∧ s.seq.state ≠ .suspended ∧ s.seq.state ≠ .tripped ∧ s.seq.state ≠ .faulted := by
  cases state : s.seq.state <;> simp [State.mayWork, state] at works ⊢

/-- Losses that trip no station, before SEQ's work, and the evaluation of the lock after them (R89, R123). -/
theorem State.Ahead.losses {v : State} (n : Nat) (mild : v.policyInForce ≠ .follow) (works : v.mayWork = true) :
    v.Ahead (v.setFreeCount n).carryLosses.carryEvaluation := by
  obtain ⟨t, counted⟩ : ∃ t, t = v.setFreeCount n := ⟨_, rfl⟩
  have first : v.Ahead t := by rw [counted]; exact .setFreeCount v n
  have mild' : t.policyInForce ≠ .follow := by rw [counted]; exact mild
  have works' : t.mayWork = true := by rw [counted]; exact works
  rw [← counted]
  have lost := State.Mild.carryLosses mild'
  have gate := State.carryLosses_gate mild'
  generalize t.carryLosses = w at lost gate ⊢
  have working : w.mayWork = true ∨ w.seq.state = .frozen := by
    have state := lost.state
    unfold freezesOrThaws at state
    simp only [State.mayWork, Bool.or_eq_true, decide_eq_true_eq] at works' ⊢
    grind
  have theta := State.carryEvaluation_theta (State.captureError_of_state (State.not_at_rest working))
  refine ⟨?_, ?_, ?_, ?_, ?_, ?_, ?_, ?_, ?_, ?_, ?_⟩
  · rw [State.carryEvaluation_stc, lost.stc, first.stc]
  · rw [State.carryEvaluation_syn, lost.syn, first.syn]
  · rw [State.carryEvaluation_ovl, lost.ovl, first.ovl]
  · rw [State.carryEvaluation_pls, lost.pls, first.pls]
  · rw [State.carryEvaluation_fbm, lost.fbm, first.fbm]
  · rw [State.carryEvaluation_ftu, lost.ftu, first.ftu]
  · rw [State.carryEvaluation_pending, lost.pending, first.pending]
  · have same : t.ctb = v.ctb := by rw [counted]; rfl
    rw [State.carryEvaluation_ctb, theta, lost.ctb, same]
    rfl
  · rw [State.carryEvaluation_seq, lost.seq, first.seq]
  · have state := lost.state
    rw [State.carryEvaluation_seq]
    rwa [counted] at state
  · rw [State.carryEvaluation_jnt]
    rwa [counted] at gate

/-! ### The sample, whatever order is drawn -/

/-- SEQ's work of a sample is the work, or the work withheld, of a state that is the one at hand but for losses. -/
theorem State.orderedWork_of_ahead (v : State) (a : Advance) : ∃ u, v.Ahead u
    ∧ (v.orderedWork a = u.stepWork a ∨ v.orderedWork a = u.withheldWork) := by
  obtain ⟨n, work | ⟨-, withheld⟩ | ⟨-, -, withheld⟩ | ⟨meets, mild, losses⟩⟩ := v.orderedWork_cases a
  · exact ⟨_, .setFreeCount v n, .inl work⟩
  · exact ⟨_, .setFreeCount v n, .inr withheld⟩
  · exact ⟨_, .setFreeCount v n, .inr withheld⟩
  · refine ⟨_, .losses n mild ?_, .inl losses⟩
    rw [State.lossMeetsWork, Bool.and_eq_true, Bool.and_eq_true] at meets
    exact meets.1.1

/-- A sample's work that starts no step. -/
structure State.GoesOn (v w : State) : Prop where
  stc : w.stc = v.stc
  syn : w.syn = v.syn.levelStep (w.seq.state = .frozen)
  ovl : w.ovl = v.ovl.advance
  ctb : ∃ c, w.ctb = (v.ctb.setC c).rampStep (w.seq.state = .frozen)
  ftu : w.ftu = { v.ftu with foldedCycles := w.ftu.foldedCycles }
  pls : w.pls = v.pls
  inEffect : w.inEffect = v.inEffect
  in0 : w.seq.in0 = v.seq.in0
  in1 : w.seq.in1 = v.seq.in1
  image : w.seq.image = v.seq.image
  tally : v.inEffect = false → w.seq.tally = v.seq.tally
  folded : v.cycleFolded = false → w.ftu.foldedCycles = v.ftu.foldedCycles

/-- The cycle of an own wrap is counted to the step in effect (R144, R145). -/
theorem State.stepWork_tally {u : State} {a : Advance} (none : u.starting a = none) : (u.stepWork a).seq.tally
    = if a.ownWrap && u.inEffect then u.seq.tally.count u.fbm.lastLrms else u.seq.tally := by
  rw [State.stepWork_of_no_start none, State.seqProgress_seq]
  simp [State.prepared_seq]

/-- And so is a folded cycle (R150). -/
theorem State.stepWork_foldedCycles {u : State} {a : Advance} (none : u.starting a = none) :
    (u.stepWork a).ftu.foldedCycles
      = if a.ownWrap && u.inEffect && u.cycleFolded then satAdd 255 u.ftu.foldedCycles 1 else u.ftu.foldedCycles := by
  rw [State.stepWork_of_no_start none]
  simp [State.prepared_ftu]

theorem State.goesOn_stepWork {u : State} {a : Advance} (none : u.starting a = none) : u.GoesOn (u.stepWork a) := by
  have tally := State.stepWork_tally none
  have folded := State.stepWork_foldedCycles none
  rw [State.stepWork_of_no_start none] at tally folded ⊢
  have frozen : ((u.prepared a).rampProgress.seqProgress a).seq.state = .frozen ↔ (u.prepared a).seq.state = .frozen := by
    rw [State.seqProgress_frozen]
    simp
  refine ⟨by simp, ?_, by simp, ⟨u.ctb.c, ?_⟩, ?_, by simp, ?_, ?_, ?_, ?_, fun idle => ?_, fun whole => ?_⟩
  · simp only [frozen, State.seqProgress_syn]
    simp [State.rampProgress]
  · simp only [frozen, State.seqProgress_ctb]
    simp [State.rampProgress]
  · simp [State.prepared_ftu]
  · rw [State.seqProgress_inEffect, ← u.prepared_inEffect a]
    exact State.inEffect_congr (by simp)
  iterate 3
    rw [State.seqProgress_seq]
    simp [State.prepared_seq]
  · rw [tally, idle, Bool.and_false, if_neg (by decide)]
  · rw [folded, whole, Bool.and_false, if_neg (by decide)]

theorem State.goesOn_withheldWork (u : State) : u.GoesOn u.withheldWork := by
  refine ⟨by simp, ?_, ?_, ⟨u.ctb.c, ?_⟩, ?_, by simp, State.inEffect_congr (by simp), ?_, ?_, ?_,
    fun _ => ?_, fun _ => ?_⟩
  · simp only [State.withheldWork_seq]
    simp [State.withheldWork, State.rampProgress]
    rfl
  · simp [State.withheldWork]
  · simp only [State.withheldWork_seq]
    simp [State.withheldWork, State.rampProgress]
    rfl
  all_goals simp

theorem State.Ahead.goesOn {v u w : State} (h : v.Ahead u) (k : u.GoesOn w) : v.GoesOn w := by
  obtain ⟨c, ctb⟩ := k.ctb
  refine ⟨k.stc.trans h.stc, by rw [k.syn, h.syn], by rw [k.ovl, h.ovl], ⟨c, by rw [ctb, h.ctb, Ctb.setC_setC]⟩, by rw [k.ftu, h.ftu],
    k.pls.trans h.pls, k.inEffect.trans h.inEffect, by rw [k.in0, h.seq], by rw [k.in1, h.seq], by rw [k.image, h.seq],
    fun idle => by rw [k.tally (h.inEffect.trans idle), h.seq], fun whole => ?_⟩
  rw [k.folded (by rwa [State.cycleFolded, h.syn, h.ftu]), h.ftu]

/-- A sample that starts no step. -/
theorem State.goesOn_orderedWork {v : State} {a : Advance} (none : v.starting a = none) :
    v.GoesOn (v.orderedWork a) := by
  obtain ⟨u, ahead, work | withheld⟩ := v.orderedWork_of_ahead a
  · rw [work]
    exact ahead.goesOn (State.goesOn_stepWork (by rw [ahead.starting, none]))
  · rw [withheld]
    exact ahead.goesOn u.goesOn_withheldWork

/-- A sample's work that starts the step `r`. -/
structure State.Starts (v w : State) (a : Advance) (r : StepRecord) : Prop where
  stc : w.stc = v.stc
  syn : w.syn = v.syn.startWith r
  ovl : w.ovl = v.ovl.advance.applyAll r.overlays
  ctb : ∃ c, w.ctb = (v.ctb.setC c).startWith r a.fBase
  ftu : w.ftu = v.startSettings r
  pls : w.pls = v.pls
  seq : ∃ retest, w.seq = v.seq.startWith r retest
  gate : w.jnt.gate = .idle
  image : v.seq.image = some r

theorem State.Starts.inEffect {v w : State} {a : Advance} {r : StepRecord} (h : v.Starts w a r) : w.inEffect = true := by
  obtain ⟨retest, seq⟩ := h.seq
  simp [State.inEffect, seq, Seq.startWith, h.image]

theorem State.prepared_retest (u : State) (a : Advance) (r : StepRecord) (retest : Bool) :
    (u.prepared a).seq.startWith r retest = u.seq.startWith r retest := by
  rw [State.prepared_seq]
  rfl

theorem State.startStep_seq (s : State) (a : Advance) (r : StepRecord) : (s.startStep a r).seq
    = s.seq.startWith r (decide (r.tripPolicy.getD s.stc.setup.policy = .hold) && s.troubled) := by
  simp only [State.startStep, State.offerStatus_seq, State.setSeq_seq]
  rfl

theorem State.starts_stepWork {u : State} {a : Advance} {r : StepRecord} (starts : u.starting a = some r) :
    u.Starts (u.stepWork a) a r := by
  have image := State.image_of_starting starts
  have settings : (u.prepared a).startSettings r = u.startSettings r := by
    simp [State.startSettings, State.prepared_ftu]
  rw [State.stepWork_of_starting starts]
  refine ⟨?_, ?_, ?_, ⟨u.ctb.c, ?_⟩, ?_, ?_, ⟨_, (State.startStep_seq _ a r).trans (u.prepared_retest a r _)⟩, ?_, image⟩
  · simp
  · simp [State.startStep]
  · simp [State.startStep]
  · simp [State.startStep]
  · simp [State.startStep, settings]
  · simp
  · simp [State.startStep]

theorem State.Ahead.starts {v u w : State} {a : Advance} {r : StepRecord} (h : v.Ahead u) (k : u.Starts w a r) :
    v.Starts w a r := by
  obtain ⟨c, ctb⟩ := k.ctb
  obtain ⟨retest, seq⟩ := k.seq
  refine ⟨k.stc.trans h.stc, by rw [k.syn, h.syn], by rw [k.ovl, h.ovl], ⟨c, by rw [ctb, h.ctb, Ctb.setC_setC]⟩, ?_,
    k.pls.trans h.pls, ⟨retest, by rw [seq, h.seq]; rfl⟩, k.gate, h.image.symm.trans k.image⟩
  rw [k.ftu, State.startSettings, State.startSettings, h.ftu, h.stc]

/-- A sample starts a step, or SEQ's work goes on, or is withheld for a trip to come. -/
theorem State.orderedWork_starts_or_goesOn (v : State) (a : Advance) :
    (∃ r, v.starting a = some r ∧ v.Starts (v.orderedWork a) a r) ∨ v.GoesOn (v.orderedWork a) := by
  obtain ⟨u, ahead, work | withheld⟩ := v.orderedWork_of_ahead a
  · rw [work]
    cases starts : u.starting a with
    | some r => exact .inl ⟨r, by rw [← ahead.starting, starts], ahead.starts (State.starts_stepWork starts)⟩
    | none => exact .inr (ahead.goesOn (State.goesOn_stepWork starts))
  · rw [withheld]
    exact .inr (ahead.goesOn u.goesOn_withheldWork)

end Sys2Proof.Machine
end

section
/-! PROOFS. The sample event's tones, ramps, code and marker inputs (O14, O17, O18, O19), by the two ways that SEQ's work
of a sample goes. -/

namespace Sys2Proof.Machine

section
variable (s : State) (x : SampleInputs)

/-- The state after SEQ's work of a sample; the code and the feedback follow. -/
def State.worked : State := (s.atWork x).orderedWork s.ctb.nextAdvance

theorem State.sample_eq_worked :
    s.sample x = ((s.worked x).present s.ctb.nextAdvance.theta).feedback x := rfl

@[simp] theorem State.sample_ctb : (s.sample x).ctb = (s.worked x).ctb := by simp [State.sample_eq_worked]
@[simp] theorem State.sample_ovl : (s.sample x).ovl = (s.worked x).ovl := by simp [State.sample_eq_worked]
@[simp] theorem State.sample_pls : (s.sample x).pls = (s.worked x).pls := by simp [State.sample_eq_worked]
@[simp] theorem State.sample_seq : (s.sample x).seq = (s.worked x).seq := by simp [State.sample_eq_worked]
@[simp] theorem State.sample_jnt : (s.sample x).jnt = (s.worked x).jnt := by simp [State.sample_eq_worked]
@[simp] theorem State.sample_lnk : (s.sample x).lnk = (s.worked x).lnk := by simp [State.sample_eq_worked]
@[simp] theorem State.sample_ptb : (s.sample x).ptb = (s.worked x).ptb := by simp [State.sample_eq_worked]
@[simp] theorem State.sample_lck : (s.sample x).lck = (s.worked x).lck := by simp [State.sample_eq_worked]
@[simp] theorem State.sample_freeCount : (s.sample x).freeCount = (s.worked x).freeCount := by
  simp [State.sample_eq_worked]

theorem State.sample_syn : (s.sample x).syn
    = (s.worked x).syn.present ((s.worked x).sampleValue s.ctb.nextAdvance.theta) (s.worked x).stc.setup.clip
        (s.worked x).inEffect := by
  rw [State.sample_eq_worked, State.feedback_syn]
  rfl

theorem State.sample_ftu : (s.sample x).ftu
    = if (s.worked x).syn.out = .dark then (s.worked x).ftu
      else (s.worked x).ftu.foldUpdate x.current.toInt (s.worked x).stc.setup.foldStep := by
  have out : (((s.worked x).present s.ctb.nextAdvance.theta).syn).out = (s.worked x).syn.out := by
    simp [State.present]
  simp only [State.sample_eq_worked, State.feedback, State.setFbm_syn, out]
  split <;> rfl

variable {s x}

/-- A sample that starts no step. -/
theorem State.worked_goesOn (h : s.noStart) : (s.atWork x).GoesOn (s.worked x) :=
  State.goesOn_orderedWork (State.starting_atWork_eq_none x h)

/-- A sample on which no order is open, and that starts a step. -/
theorem State.worked_starts (ready : s.ready) (k : s.undisputed) {r : StepRecord} (starts : s.startsOn r) :
    (s.atWork x).Starts (s.worked x) s.ctb.nextAdvance r := by
  rw [State.worked, State.orderedWork_atWork_of_undisputed x ready k]
  exact State.starts_stepWork ((State.starting_atWork_iff x).2 starts)

theorem State.worked_starts_or_goesOn (s : State) (x : SampleInputs) :
    (∃ r, s.startsOn r ∧ (s.atWork x).Starts (s.worked x) s.ctb.nextAdvance r)
      ∨ (s.atWork x).GoesOn (s.worked x) := by
  obtain ⟨r, starts, started⟩ | goes := (s.atWork x).orderedWork_starts_or_goesOn s.ctb.nextAdvance
  · exact .inl ⟨r, (State.starting_atWork_iff x).1 starts, started⟩
  · exact .inr goes

/-! What a sample leaves in every order. -/

@[simp] theorem State.worked_stc (s : State) (x : SampleInputs) : (s.worked x).stc = s.stc := by simp [State.worked]

@[simp] theorem State.worked_out (s : State) (x : SampleInputs) : (s.worked x).syn.out = s.syn.out := by
  obtain ⟨r, -, started⟩ | goes := s.worked_starts_or_goesOn x
  · rw [started.syn, Syn.startWith_out, State.atWork_syn]
  · rw [goes.syn, Syn.levelStep_out, State.atWork_syn]

@[simp] theorem State.worked_limited (s : State) (x : SampleInputs) : (s.worked x).syn.limited = s.syn.limited := by
  obtain ⟨r, -, started⟩ | goes := s.worked_starts_or_goesOn x
  · rw [started.syn, Syn.startWith_limited, State.atWork_syn]
  · rw [goes.syn, Syn.levelStep_limited, State.atWork_syn]

theorem State.closeFold_ftu (s : State) : s.closeFold.ftu = { s.ftu with
    folded := s.closeFold.ftu.folded, streak := s.closeFold.ftu.streak, tripDue := s.closeFold.ftu.tripDue } := by
  unfold State.closeFold
  split
  · rfl
  · split <;> rfl

theorem State.atWork_ftu_eq (s : State) (x : SampleInputs) : (s.atWork x).ftu = { s.ftu with
    folded := (s.atWork x).ftu.folded, streak := (s.atWork x).ftu.streak, tripDue := (s.atWork x).ftu.tripDue } := by
  rw [State.atWork_ftu]
  split
  · exact s.closeFold_ftu
  · rfl

@[simp] theorem State.worked_phi (s : State) (x : SampleInputs) : (s.worked x).ftu.phi = s.ftu.phi := by
  obtain ⟨r, -, started⟩ | goes := s.worked_starts_or_goesOn x
  · rw [started.ftu, State.startSettings, State.atWork_ftu_eq]
  · rw [goes.ftu, State.atWork_ftu_eq]

theorem State.worked_in0 (s : State) (x : SampleInputs) : (s.worked x).seq.in0 = (s.atWork x).seq.in0
    ∧ (s.worked x).seq.in1 = (s.atWork x).seq.in1 := by
  obtain ⟨r, -, started⟩ | goes := s.worked_starts_or_goesOn x
  · obtain ⟨retest, seq⟩ := started.seq
    rw [seq]
    exact ⟨rfl, rfl⟩
  · exact ⟨goes.in0, goes.in1⟩

end

/-! ### The overlay entries and the tones (O17) -/

theorem Ovl.slot_apply_ne (o : Ovl) {i j : OverlayIndex} (arm : Option OverlayArm) (h : j ≠ i) :
    (o.apply { slot := i, arm := arm }).slot j = o.slot j := by
  exact Ovl.slot_setSlot_ne o _ h

theorem Ovl.slot_apply_same (o : Ovl) (i : OverlayIndex) (arm : Option OverlayArm) :
    (o.apply { slot := i, arm := arm }).slot i = match arm with
      | none => .off
      | some a => armSlot (o.slot i) a := by
  exact Ovl.slot_setSlot_same o i _

/-- Settles O17: an entry writes its slot alone; on a sample without a start the slots advance (`State.GoesOn`). -/
theorem overlayEntriesAndToneAdvance : Obligations.OverlayEntriesAndToneAdvance := by
  unfold Obligations.OverlayEntriesAndToneAdvance
  refine ⟨fun o i j => ?_, fun s x i ready quiet => ?_⟩
  · have increment : ∀ f : BitVec 32, incrementOf f.toNat = (2 * (f.toNat * 2 ^ 32) + 2560000) / 5120000 := fun f => rfl
    refine ⟨fun arm other => ?_, ?_, fun f b f0 inc0 b0 p tone => ?_, fun f b fresh => ?_, fun c => ?_,
      fun d w0 w1 => ?_, fun b w0 w1 => ?_, fun c w0 w1 => ?_⟩
    · exact Ovl.slot_apply_ne o arm other
    · rw [Ovl.slot_apply_same]
    · rw [Ovl.slot_apply_same]
      simp only [armSlot, tone, increment]
    · rw [Ovl.slot_apply_same]
      cases slot : o.slot i with
      | tone => simp [slot, OverlaySlot.kind] at fresh
      | _ => simp only [armSlot, increment]
    all_goals
      rw [Ovl.slot_apply_same]
      rfl
  · refine ⟨s.sample x, exec_sampleEvent_of_ready ready x, fun f inc b p tone => ?_, fun other => ?_⟩
    · rw [State.sample_ovl, (State.worked_goesOn quiet).ovl, State.atWork_ovl, Ovl.slot_advance, tone]
      rfl
    · rw [State.sample_ovl, (State.worked_goesOn quiet).ovl, State.atWork_ovl, Ovl.slot_advance]
      cases slot : s.ovl.slot i with
      | tone f inc b p => exact absurd slot (other f inc b p)
      | _ => rfl

/-! ### The ramps (O18, O19) -/

section
variable {y : Syn} {frozen : Bool}

theorem Syn.levelStep_of_safe {g : SafeRamp} (safe : y.safe = some g) (runs : g.index < g.length) :
    y.levelStep frozen = { y with level := rampValue g.start 0 (g.index + 1) g.length
                                  safe := some { g with index := g.index + 1 } } := by
  simp only [Syn.levelStep, safe]
  rw [if_neg (by omega)]

theorem Syn.levelStep_of_ramp {r : LevelRamp} (safe : y.safe = none) (ramp : y.ramp = some r) (runs : r.index < r.length) :
    y.levelStep false = { y with level := rampValue r.start r.target (r.index + 1) r.length
                                 ramp := some { r with index := r.index + 1 } } := by
  simp only [Syn.levelStep, safe, ramp]
  rw [if_neg (by simpa using runs)]

theorem Syn.levelStep_of_rest (safe : y.safe = none) (rests : y.ramp = none ∨ frozen = true) : y.levelStep frozen = y := by
  unfold Syn.levelStep
  rw [safe]
  dsimp only
  split
  · rfl
  next r ramp =>
    obtain none | rfl := rests
    · rw [none] at ramp
      exact nomatch ramp
    · rw [if_pos (by simp)]

end

section
variable {c : Ctb} {frozen : Bool}

theorem Ctb.rampStep_of_ramp {r : FreqRamp} (ramp : c.ramp = some r) (runs : r.index < r.length) :
    c.rampStep false = { c.setF (rampValue r.start r.target (r.index + 1) r.length) with
                         ramp := some { r with index := r.index + 1 } } := by
  simp only [Ctb.rampStep, ramp]
  rw [if_neg (by simpa using runs)]

theorem Ctb.rampStep_of_rest (rests : c.ramp = none ∨ frozen = true) : c.rampStep frozen = c := by
  unfold Ctb.rampStep
  split
  · rfl
  next r ramp =>
    obtain none | rfl := rests
    · rw [none] at ramp
      exact nomatch ramp
    · rw [if_pos (by simp)]

end

theorem State.atWork_ctb_f (s : State) (x : SampleInputs) : (s.atWork x).ctb.f = s.ctb.f
    ∧ (s.atWork x).ctb.ramp = s.ctb.ramp := by
  rw [State.atWork_ctb, State.atAdvance_ctb]
  exact ⟨rfl, rfl⟩

theorem State.atWork_levels (s : State) (x : SampleInputs) : (s.atWork x).syn.level = s.syn.level
    ∧ (s.atWork x).syn.ramp = s.syn.ramp ∧ (s.atWork x).syn.safe = s.syn.safe := by
  rw [State.atWork_syn]
  exact ⟨rfl, rfl, rfl⟩

/-- Settles O18: a sample without a start steps the two ramps, frozen or not as SEQ is after it (`State.GoesOn`). -/
theorem sampleLevelAndFrequencyFollowTheirRamps : Obligations.SampleLevelAndFrequencyFollowTheirRamps := by
  unfold Obligations.SampleLevelAndFrequencyFollowTheirRamps
  refine ⟨fun s x ready quiet => ?_, fun s x ready quiet => ?_⟩
  · have goes := State.worked_goesOn (x := x) quiet
    have level : (s.sample x).syn.level = (s.worked x).syn.level := by rw [State.sample_syn, Syn.present_level]
    have ramp : (s.sample x).syn.ramp = (s.worked x).syn.ramp := by rw [State.sample_syn, Syn.present_ramp]
    have safe : (s.sample x).syn.safe = (s.worked x).syn.safe := by rw [State.sample_syn, Syn.present_safe]
    obtain ⟨level₀, ramp₀, safe₀⟩ := s.atWork_levels x
    refine ⟨s.sample x, exec_sampleEvent_of_ready ready x, fun g safe' runs _ => ?_, fun r none ramp' runs going => ?_,
      fun none rests => ?_⟩
    · rw [level, ramp, safe, goes.syn, Syn.levelStep_of_safe (safe₀.trans safe') runs]
      exact ⟨by rw [rampValue_eq (by omega)]; push_cast; rfl, rfl, ramp₀⟩
    · rw [State.sample_seq] at going
      rw [level, ramp, goes.syn, decide_eq_false going,
        Syn.levelStep_of_ramp (safe₀.trans none) (ramp₀.trans ramp') runs]
      exact ⟨by rw [rampValue_eq (by omega)]; push_cast; rfl, rfl⟩
    · rw [State.sample_seq] at rests
      rw [level, ramp, goes.syn,
        Syn.levelStep_of_rest (safe₀.trans none) (rests.imp (ramp₀.trans ·) decide_eq_true)]
      exact ⟨level₀, ramp₀⟩
  · have goes := State.worked_goesOn (x := x) quiet
    obtain ⟨c, ctb⟩ := goes.ctb
    obtain ⟨f, ramp⟩ := s.atWork_ctb_f x
    refine ⟨s.sample x, exec_sampleEvent_of_ready ready x, fun r ramp' runs going => ?_, fun rests => ?_⟩
    · rw [State.sample_seq] at going
      rw [State.sample_ctb, ctb, decide_eq_false going, Ctb.rampStep_of_ramp (c := (s.atWork x).ctb.setC c) (ramp.trans ramp') runs]
      have value := rampValue_eq (start := r.start) (target := r.target) (by omega : r.index + 1 ≤ r.length)
      exact ⟨by rw [Nat.cast_add_one] at value; exact value, rfl⟩
    · rw [State.sample_seq] at rests
      rw [State.sample_ctb, ctb, Ctb.rampStep_of_rest (c := (s.atWork x).ctb.setC c) (rests.imp (ramp.trans ·) decide_eq_true)]
      exact ⟨f, ramp⟩

/-- Settles O19. -/
theorem rampValuesAndTheirEnds : Obligations.RampValuesAndTheirEnds := by
  unfold Obligations.RampValuesAndTheirEnds
  refine ⟨⟨fun start target r pos => ?_, fun s run => ⟨fun done => ?_, fun more => ?_, fun done => ?_, fun more => ?_⟩⟩,
    fun start target k r _ le => rampValue_between le, fun s g run falling safe done => ?_⟩
  · have value := rampValue_eq (start := start) (target := target) (le_refl r)
    rw [Int.mul_tdiv_cancel _ (by omega)] at value
    omega
  · rw [exec_levelRampEnd, State.carrying_of_running run, State.carryLevelRampEnd, if_pos done]
  · rw [exec_levelRampEnd, State.carrying_of_running run, State.carryLevelRampEnd, if_neg (by simp [more])]
  · rw [exec_frequencyRampEnd, State.carrying_of_running run, State.carryFrequencyRampEnd, if_pos done]
  · rw [exec_frequencyRampEnd, State.carrying_of_running run, State.carryFrequencyRampEnd, if_neg (by simp [more])]
  · have due : s.syn.safeDone = true := by simp [Syn.safeDone, safe, falling, done]
    rw [exec_safeRampDownEnd, State.carrying_of_running run, State.carrySafeEnd, if_pos due]
    rfl

end Sys2Proof.Machine
end

section
/-! PROOFS. The output code (O14), the measurement (O26) and the fold factor (O27) of a sample event. -/

namespace Sys2Proof.Machine

section
variable (s : State) (x : SampleInputs)

/-! ### The output code -/

theorem Syn.present_of_dark {y : Syn} (dark : y.out = .dark) (value : Int) (clip : Nat) (inEffect : Bool) :
    y.present value clip inEffect = { y with dac := 0 } := by
  rw [Syn.present, if_pos dark]

/-- A value beyond the clip, in the terms of R31. -/
theorem natAbs_gt_iff (value : Int) (clip : Nat) : value.natAbs > clip ↔ value > clip ∨ value < -clip := by omega

theorem Syn.present_of_live {y : Syn} (live : y.out ≠ .dark) (value : Int) (clip : Nat) (inEffect : Bool) :
    y.present value clip inEffect = { y with
      dac := if value > clip then (clip : Int) else if value < -clip then -clip else value
      limited := y.limited || decide (value > clip ∨ value < -clip)
      limitedSamples := if (value > clip ∨ value < -clip) ∧ inEffect = true then min 65535 (y.limitedSamples + 1)
        else y.limitedSamples } := by
  rw [Syn.present, if_neg live]
  simp only [natAbs_gt_iff, Bool.and_eq_true, decide_eq_true_eq]
  rfl

/-- The value that the clip stage takes is formed from the state that the sample leaves, and the former Φ. -/
theorem State.worked_sampleValue (theta : Phase) : (s.worked x).sampleValue theta
    = sigmaReplaced theta (sigma theta (s.stc.setup.pNom * (s.sample x).syn.level * s.ftu.phi / 10240000)
        (match (s.sample x).syn.profile with
          | some i => (s.sample x).pls.profile i
          | none => []) (s.sample x).ovl s.stc.setup.pNom s.ftu.phi) (s.sample x).ovl s.stc.setup.pNom := by
  rw [State.sample_syn, Syn.present_level, Syn.present_profile, State.sample_pls, State.sample_ovl]
  unfold State.sampleValue
  rw [State.worked_stc, State.worked_phi]
  rfl

theorem State.sample_inEffect : (s.sample x).inEffect = (s.worked x).inEffect :=
  State.inEffect_congr (s.sample_seq x)

/-- Settles O14: the clip stage takes Σ′ of the state after SEQ's work, in any order (`Syn.present_of_live`). -/
theorem sampleCodeFollowsTheStages : Obligations.SampleCodeFollowsTheStages := by
  unfold Obligations.SampleCodeFollowsTheStages
  intro s x ready
  refine ⟨s.sample x, exec_sampleEvent_of_ready ready x, ?_⟩
  intro entries theta pNom limit sum value beyond
  have same : value = (s.worked x).sampleValue s.ctb.nextAdvance.theta :=
    (s.worked_sampleValue x s.ctb.nextAdvance.theta).symm
  clear_value value
  subst same
  have out : (s.sample x).syn.out = s.syn.out := by rw [State.sample_syn, Syn.present_out, State.worked_out]
  have clip : (s.worked x).stc.setup.clip = s.stc.setup.clip := by rw [State.worked_stc]
  have syn := s.sample_syn x
  rw [clip] at syn
  have counted : ∀ n, (s.worked x).syn.limitedSamples = n → (s.sample x).syn.limitedSamples
      = if ((s.sample x).syn.out ≠ .dark ∧ ((s.worked x).sampleValue s.ctb.nextAdvance.theta > s.stc.setup.clip
          ∨ (s.worked x).sampleValue s.ctb.nextAdvance.theta < -s.stc.setup.clip)) ∧ (s.sample x).inEffect = true
        then min 65535 (n + 1) else n := by
    rintro n rfl
    rw [State.sample_inEffect, out, syn]
    by_cases dark : s.syn.out = .dark
    · rw [Syn.present_of_dark (by rw [State.worked_out, dark])]
      simp [dark]
    · rw [Syn.present_of_live (by rwa [State.worked_out])]
      simp only [dark, ne_eq, not_false_eq_true, true_and]
  refine ⟨out, fun dark => ?_, fun live => ?_, fun quiet => ?_, fun open' r starts => ?_⟩
  · rw [out] at dark
    rw [syn, Syn.present_of_dark (by rw [State.worked_out, dark])]
    exact ⟨rfl, s.worked_limited x⟩
  · rw [out] at live
    rw [syn, Syn.present_of_live (by rwa [State.worked_out])]
    refine ⟨rfl, ?_⟩
    simp [limit]
  · refine counted _ ?_
    rw [(State.worked_goesOn quiet).syn, Syn.levelStep_limitedSamples, State.atWork_syn]
  · have started := State.worked_starts (x := x) ready open' starts
    have zero : (s.worked x).syn.limitedSamples = 0 := by
      rw [started.syn]
      obtain ⟨l, p, g, h⟩ := (s.atWork x).syn.startWith_eq r
      rw [h]
    rw [counted 0 zero, State.sample_inEffect, started.inEffect]
    simp [beyond, limit]

end

/-! ### The measurement (O26) -/

/-- The tally after a counted cycle, in the terms of R145. -/
theorem Tally.count_eq (t : Tally) (level : Nat) : (t.count level).cycles = min 65535 (t.cycles + 1)
    ∧ (t.lrms = none → (t.count level).lrms = some { lowest := level, highest := level })
    ∧ ∀ a b, t.lrms = some { lowest := a, highest := b } →
        (t.count level).lrms = some { lowest := min a level, highest := max b level } := by
  refine ⟨rfl, fun none => ?_, fun a b range => ?_⟩
  · simp [Tally.count, none, mergeRange]
  · simp [Tally.count, range, mergeRange]

section
variable {s : State} {x : SampleInputs}

/-- On a sample with no order open and no start, SEQ's work is the step's own. -/
theorem State.worked_of_undisputed (ready : s.ready) (open' : s.undisputed) :
    s.worked x = (s.atWork x).stepWork s.ctb.nextAdvance :=
  State.orderedWork_atWork_of_undisputed x ready open'

theorem State.atWork_lastLrms (wrap : s.ctb.nextAdvance.ownWrap = true) :
    (s.atWork x).fbm.lastLrms = s.fbm.closedLrms s.stc.setup.pNom := by
  rw [State.atWork_fbm, if_pos wrap]
  rfl

end

/-- Settles O26: FBM accumulates every sample's codes (`State.sample_fbm`), and SEQ counts the closed cycle
(`State.stepWork_tally`). -/
theorem feedbackIsMeasuredOnEverySample : Obligations.FeedbackIsMeasuredOnEverySample := by
  unfold Obligations.FeedbackIsMeasuredOnEverySample
  intro s x ready
  refine ⟨s.sample x, exec_sampleEvent_of_ready ready x, fun inside => ?_,
    fun wrap => ⟨?_, fun quiet open' effect => ?_, fun quiet idle => ?_⟩⟩
  · rw [State.sample_fbm, if_neg (by simp [inside]), Nat.pow_two]
    rfl
  · rw [State.sample_fbm, if_pos wrap, State.closeCycle_fbm, Fbm.accumulate, Nat.pow_two]
    simp
  · have counted : (s.sample x).seq.tally = s.seq.tally.count (s.fbm.closedLrms s.stc.setup.pNom) := by
      rw [State.sample_seq, State.worked_of_undisputed ready open',
        State.stepWork_tally (State.starting_atWork_eq_none x quiet), State.atWork_inEffect, wrap, effect,
        State.atWork_lastLrms wrap, State.atWork_seq]
      rfl
    rw [counted]
    exact Tally.count_eq _ _
  · rw [State.sample_seq, (State.worked_goesOn quiet).tally (by rwa [State.atWork_inEffect]), State.atWork_seq]

/-! ### The fold factor (O27) -/

section
variable {s : State} {x : SampleInputs}

theorem State.sample_ftu_of_dark (dark : s.syn.out = .dark) : (s.sample x).ftu = (s.worked x).ftu := by
  rw [State.sample_ftu, if_pos (by rw [State.worked_out, dark])]

theorem State.sample_ftu_of_live (live : s.syn.out ≠ .dark) : (s.sample x).ftu = { (s.worked x).ftu with
    phi := if x.current.toInt.natAbs > (s.worked x).ftu.limit then max 64 (s.ftu.phi - s.stc.setup.foldStep)
      else min 1024 (s.ftu.phi + 1) } := by
  rw [State.sample_ftu, if_neg (by rwa [State.worked_out]), State.worked_stc, Ftu.foldUpdate, State.worked_phi]

/-- Beside Φ, FTU is after a sample as it is after SEQ's work. -/
theorem State.sample_ftu_eq (s : State) (x : SampleInputs) :
    (s.sample x).ftu = { (s.worked x).ftu with phi := (s.sample x).ftu.phi } := by
  by_cases dark : s.syn.out = .dark
  · rw [State.sample_ftu_of_dark dark]
  · rw [State.sample_ftu_of_live dark]

theorem State.closeFold_of_dark (dark : s.syn.out = .dark) : s.closeFold = s := by rw [State.closeFold, if_pos dark]

theorem State.atWork_cycleFolded (s : State) (x : SampleInputs) : (s.atWork x).cycleFolded = s.cycleFolded := by
  rw [State.cycleFolded, State.cycleFolded, State.atWork_syn, State.atWork_ftu_eq]

/-- On a sample without a start the settings in force stand (R148). -/
theorem State.sample_settings (quiet : s.noStart) : (s.sample x).ftu.limit = s.ftu.limit
    ∧ (s.sample x).ftu.tripCycles = s.ftu.tripCycles ∧ (s.sample x).ftu.stepPolicy = s.ftu.stepPolicy
    ∧ (s.sample x).ftu.tripCause = s.ftu.tripCause := by
  rw [State.sample_ftu_eq, (State.worked_goesOn quiet).ftu, State.atWork_ftu_eq]
  exact ⟨rfl, rfl, rfl, rfl⟩

/-- What a sample without a start makes of the fold test's fields. -/
theorem State.sample_folds (quiet : s.noStart) (wrap : s.ctb.nextAdvance.ownWrap = true) :
    (s.sample x).ftu.folded = s.closeFold.ftu.folded ∧ (s.sample x).ftu.streak = s.closeFold.ftu.streak
      ∧ (s.sample x).ftu.tripDue = s.closeFold.ftu.tripDue := by
  rw [State.sample_ftu_eq, (State.worked_goesOn quiet).ftu, State.atWork_ftu, if_pos wrap]
  exact ⟨rfl, rfl, rfl⟩

theorem State.sample_foldedCycles_of_whole (quiet : s.noStart) (whole : s.cycleFolded = false) :
    (s.sample x).ftu.foldedCycles = s.ftu.foldedCycles := by
  rw [State.sample_ftu_eq]
  refine ((State.worked_goesOn (x := x) quiet).folded ((s.atWork_cycleFolded x).trans whole)).trans ?_
  rw [State.atWork_ftu_eq]

end

/-- Settles O27: SEQ's work leaves Φ to the feedback of the sample (`State.sample_ftu_of_live`), and the fold test of
an own wrap to the count of its cycle (`State.sample_folds`). -/
theorem foldFactorAndFoldedCycles : Obligations.FoldFactorAndFoldedCycles := by
  unfold Obligations.FoldFactorAndFoldedCycles
  refine ⟨fun s x ready => ⟨s.sample x, exec_sampleEvent_of_ready ready x, fun dark => ?_, fun live => ?_,
      fun quiet => State.sample_settings quiet⟩,
    fun s x ready quiet wrap => ⟨s.sample x, exec_sampleEvent_of_ready ready x, fun live folded => ?_,
      fun live whole => ?_, fun dark => ?_⟩⟩
  · rw [State.sample_ftu_of_dark dark, State.worked_phi]
  · rw [State.sample_ftu_of_live live]
  · have counted : s.cycleFolded = true := by simp [State.cycleFolded, live, folded]
    obtain ⟨flag, streak, trip⟩ := State.sample_folds (x := x) quiet wrap
    obtain ⟨-, -, due, -⟩ := ready.nothing_due
    refine ⟨?_, ?_, fun open' => ?_, ?_⟩
    · rw [flag, State.closeFold, if_neg live, if_pos counted]
      rfl
    · rw [streak, State.closeFold, if_neg live, if_pos counted]
      rfl
    · have kept : (s.atWork x).ftu.foldedCycles = s.ftu.foldedCycles := by rw [State.atWork_ftu_eq]
      rw [State.sample_ftu_eq]
      dsimp only
      rw [State.worked_of_undisputed ready open',
        State.stepWork_foldedCycles (State.starting_atWork_eq_none x quiet), State.atWork_inEffect,
        State.atWork_cycleFolded, wrap, counted, kept]
      cases s.inEffect <;> rfl
    · rw [trip, State.closeFold_tripDue_iff due]
      tauto
  · have none : s.cycleFolded = false := by simp [State.cycleFolded, live, whole]
    obtain ⟨flag, streak, trip⟩ := State.sample_folds (x := x) quiet wrap
    obtain ⟨-, -, due, -⟩ := ready.nothing_due
    have closed : s.closeFold = s.setFtu { s.ftu with streak := 0 } := by
      rw [State.closeFold, if_neg live, if_neg (by simp [none])]
    rw [flag, streak, trip, closed]
    exact ⟨rfl, rfl, State.sample_foldedCycles_of_whole quiet none, due⟩
  · have whole : s.cycleFolded = false := by simp [State.cycleFolded, dark]
    have goes := State.worked_goesOn (x := x) quiet
    have still : (s.atWork x).ftu = s.ftu := by
      rw [State.atWork_ftu, if_pos wrap, State.closeFold_of_dark dark]
    rw [State.sample_ftu_of_dark dark, goes.ftu, goes.folded ((s.atWork_cycleFolded x).trans whole), still]

end Sys2Proof.Machine
end

section
/-! PROOFS. The timebase of a sample event (O8), its common wrap (O10) and the evaluation of the lock (O11, O12). -/

namespace Sys2Proof.Machine

/-! ### CTB in SEQ's work of a sample -/

/-- What SEQ's work of a sample does with CTB: a step of the frequency ramp, or the start of one (R8, R9). -/
def Ctb.stepsTo (c d : Ctb) : Prop := (∃ frozen, d = c.rampStep frozen) ∨ ∃ r fBase, d = c.startWith r fBase

section
variable {c d : Ctb}

theorem clampAbs_of_le {m : Nat} {v : Int} (le : v.natAbs ≤ m) : clampAbs m v = v := by
  rw [clampAbs, if_neg (by omega), if_neg (by omega)]

/-- Where F stands or changes, C is the former C clamped to the F there is (R10). -/
theorem Ctb.rampStep_c (fits : c.c.natAbs ≤ c.f >>> 10) (frozen : Bool) :
    (c.rampStep frozen).c = clampAbs ((c.rampStep frozen).f >>> 10 : Nat) c.c := by
  unfold Ctb.rampStep
  split
  · exact (clampAbs_of_le fits).symm
  · split
    · exact (clampAbs_of_le fits).symm
    · rfl

theorem Ctb.startWith_c (fits : c.c.natAbs ≤ c.f >>> 10) (r : StepRecord) (fBase : Nat) :
    (c.startWith r fBase).c = clampAbs ((c.startWith r fBase).f >>> 10 : Nat) c.c := by
  unfold Ctb.startWith
  split
  next f frequency =>
    simp only [Ctb.startFrequency]
    generalize incrementOf f.toNat = target
    split <;> rfl
  next => exact Ctb.rampStep_c fits false

theorem Ctb.stepsTo.c_eq (h : c.stepsTo d) (fits : c.c.natAbs ≤ c.f >>> 10) :
    d.c = clampAbs (d.f >>> 10 : Nat) c.c := by
  obtain ⟨frozen, rfl⟩ | ⟨r, fBase, rfl⟩ := h
  · exact Ctb.rampStep_c fits frozen
  · exact Ctb.startWith_c fits r fBase

theorem Ctb.stepsTo.rest (h : c.stepsTo d) : d.tick = c.tick ∧ d.divider = c.divider ∧ d.theta = c.theta
    ∧ d.delta = c.delta ∧ d.ownCycles = c.ownCycles ∧ d.commonCycles = c.commonCycles := by
  obtain ⟨frozen, rfl⟩ | ⟨r, fBase, rfl⟩ := h
  · exact ⟨by simp, by simp, by simp, by simp, by simp, by simp⟩
  · exact ⟨by simp, by simp, by simp, by simp, by simp, by simp⟩

end

/-- SEQ's work of a sample, or the work withheld for a trip to come. -/
def State.worksFrom (u : State) (a : Advance) (w : State) : Prop := w = u.stepWork a ∨ w = u.withheldWork

namespace State.worksFrom

variable {u w : State} {a : Advance} (h : u.worksFrom a w)
include h

theorem ptb : w.ptb = u.ptb := by
  obtain rfl | rfl := h <;> simp

theorem lck : w.lck = u.lck := by
  obtain rfl | rfl := h <;> simp

theorem ctb : u.ctb.stepsTo w.ctb := by
  obtain rfl | rfl := h
  · cases starts : u.starting a with
    | some r =>
      refine .inr ⟨r, a.fBase, ?_⟩
      rw [State.stepWork_of_starting starts]
      simp [State.startStep]
    | none =>
      refine .inl ⟨decide ((u.prepared a).seq.state = .frozen), ?_⟩
      rw [State.stepWork_of_no_start starts, State.seqProgress_ctb, State.rampProgress, State.setCtb_ctb,
        State.prepared_ctb]
  · refine .inl ⟨decide ((u.setOvl u.ovl.advance).seq.state = .frozen), ?_⟩
    rw [State.withheldWork, State.rampProgress, State.setCtb_ctb, State.setOvl_ctb]

end State.worksFrom

section
variable {s : State} (x : SampleInputs)

/-- SEQ's work of a sample is that of the state it begins in, or of that state after the losses that come first. -/
theorem State.worked_cases (ready : s.ready) :
    (∃ n, ((s.atWork x).setFreeCount n).worksFrom s.ctb.nextAdvance (s.worked x))
      ∨ (s.lossAhead ∧ s.mayWork = true ∧ s.policyInForce ≠ .follow
          ∧ ∃ n, s.worked x = ((s.atWork x).setFreeCount n).carryLosses.carryEvaluation.stepWork s.ctb.nextAdvance) := by
  obtain ⟨n, work | ⟨-, withheld⟩ | ⟨-, -, withheld⟩ | ⟨meets, mild, losses⟩⟩ :=
    (s.atWork x).orderedWork_cases s.ctb.nextAdvance
  · exact .inl ⟨n, .inl work⟩
  · exact .inl ⟨n, .inr withheld⟩
  · exact .inl ⟨n, .inr withheld⟩
  · obtain ⟨works, loss, -⟩ := (State.lossMeetsWork_atWork_iff x ready).1 meets
    exact .inr ⟨loss, works, by rwa [← State.atWork_policyInForce x s], n, losses⟩

theorem State.captureError_of_live {s : State} (live : s.syn.out ≠ .dark) (lock : LockState) :
    s.captureError lock = none :=
  State.captureError_of_noCapture (.inl live) lock

/-- No capture moves θ while the output is not DARK, nor on a sample that is no common wrap (R126). -/
theorem State.atAdvance_theta (h : s.syn.out ≠ .dark ∨ s.ctb.nextAdvance.commonWrap = false) :
    s.atAdvance.ctb.theta = s.ctb.nextAdvance.theta := by
  unfold State.atAdvance
  split
  next wrap =>
    have live : s.syn.out ≠ .dark := h.resolve_right (by simp [wrap])
    rw [((s.setCtb s.ctb.advance).commonWrap_carryEvaluation _).1, State.carryEvaluation_theta]
    · rfl
    · exact State.captureError_of_live (by simpa [State.marked] using live)
  next => rfl

theorem State.worked_ctb_ahead (s : State) (x : SampleInputs) :
    ∃ c, ((s.atWork x).ctb.setC c).stepsTo (s.worked x).ctb := by
  obtain ⟨r, -, started⟩ | goes := s.worked_starts_or_goesOn x
  · obtain ⟨c, ctb⟩ := started.ctb
    exact ⟨c, .inr ⟨r, _, ctb⟩⟩
  · obtain ⟨c, ctb⟩ := goes.ctb
    exact ⟨c, .inl ⟨_, ctb⟩⟩

/-- The fields of CTB beside F, C and the ramp, after a sample event (R3, R6). -/
theorem State.sample_ctb_fields (s : State) (x : SampleInputs) : (s.sample x).ctb.tick = s.ctb.advance.tick
    ∧ (s.sample x).ctb.divider = 0 ∧ (s.sample x).ctb.theta = s.atAdvance.ctb.theta
    ∧ (s.sample x).ctb.delta = s.ctb.delta ∧ (s.sample x).ctb.ownCycles = s.ctb.advance.ownCycles
    ∧ (s.sample x).ctb.commonCycles = s.ctb.advance.commonCycles := by
  obtain ⟨c, steps⟩ := s.worked_ctb_ahead x
  obtain ⟨tick, divider, theta, delta, own, common⟩ := steps.rest
  rw [State.sample_ctb, tick, divider, theta, delta, own, common, State.atWork_ctb, State.atAdvance_ctb]
  exact ⟨rfl, rfl, rfl, rfl, rfl, rfl⟩

/-- On a sample without a common wrap SEQ's work finds CTB as the advance has left it. -/
theorem State.atWork_ctb_of_no_wrap (none : s.ctb.nextAdvance.commonWrap = false) : (s.atWork x).ctb = s.ctb.advance := by
  rw [State.atWork_ctb, State.atAdvance, if_neg (by simp [none])]
  rfl

theorem State.worked_ctb_of_no_wrap (ready : s.ready) (none : s.ctb.nextAdvance.commonWrap = false) :
    s.ctb.advance.stepsTo (s.worked x).ctb := by
  obtain ⟨n, works⟩ | ⟨⟨wrap, -⟩, -⟩ := State.worked_cases x ready
  · have steps := works.ctb
    rwa [State.setFreeCount_ctb, State.atWork_ctb_of_no_wrap x none] at steps
  · rw [none] at wrap
    exact nomatch wrap

/-! ### The profiles -/

theorem State.worked_pls (s : State) (x : SampleInputs) : (s.worked x).pls = (s.atWork x).pls := by
  obtain ⟨r, -, started⟩ | goes := s.worked_starts_or_goesOn x
  · exact started.pls
  · exact goes.pls

theorem State.worked_pendingCopy (s : State) (x : SampleInputs) :
    (s.worked x).syn.pendingCopy = if s.ctb.nextAdvance.ownWrap then none else s.syn.pendingCopy := by
  obtain ⟨r, -, started⟩ | goes := s.worked_starts_or_goesOn x
  · rw [started.syn, Syn.startWith_pendingCopy, State.atWork_syn]
  · rw [goes.syn, Syn.levelStep_pendingCopy, State.atWork_syn]

/-- An own wrap writes the pending profile copy into its profile (R28). -/
theorem State.atWork_pls (s : State) (x : SampleInputs) : (s.atWork x).pls
    = if s.ctb.nextAdvance.ownWrap then s.applyPending.pls else s.pls := by
  have applied : ∀ t : State, t.syn = s.syn → t.pls = s.pls → t.applyPending.pls = s.applyPending.pls := by
    intro t syn pls
    unfold State.applyPending
    rw [syn, pls]
    cases s.syn.pendingCopy with
    | none => exact pls
    | some p => rfl
  unfold State.atWork
  split
  · rw [State.ownWrap, State.setSeq_pls]
    exact applied _ (by simp) (by simp)
  · simp

theorem State.applyPending_ring (s : State) : s.applyPending.pls.ring = s.pls.ring := by
  unfold State.applyPending
  split <;> rfl

theorem State.applyPending_of_some {i : ProfileIndex} {l : List ProfileEntry} (copy : s.syn.pendingCopy = some (i, l)) :
    s.applyPending.pls = s.pls.setProfile i l := by
  simp [State.applyPending, copy]

theorem State.applyPending_of_none (copy : s.syn.pendingCopy = none) : s.applyPending.pls = s.pls := by
  simp [State.applyPending, copy]

end

/-- Settles O8: SEQ's work steps CTB's ramp alone (`Ctb.stepsTo`), on the C and the θ that the common wrap leaves. -/
theorem sampleAdvancesTheTimebase : Obligations.SampleAdvancesTheTimebase := by
  unfold Obligations.SampleAdvancesTheTimebase
  intro s x ready _
  obtain ⟨tick, divider, theta, delta, own, common⟩ := s.sample_ctb_fields x
  have copy : (s.sample x).syn.pendingCopy = if s.ctb.nextAdvance.ownWrap then none else s.syn.pendingCopy := by
    rw [State.sample_syn, Syn.present_pendingCopy, State.worked_pendingCopy]
  have pls : (s.sample x).pls = if s.ctb.nextAdvance.ownWrap then s.applyPending.pls else s.pls := by
    rw [State.sample_pls, State.worked_pls, State.atWork_pls]
  refine ⟨s.sample x, exec_sampleEvent_of_ready ready x, divider, tick, delta, fun still => ?_, fun none fits => ?_, ?_,
    ?_, fun wrap => ⟨?_, fun i l pending => ?_, fun none => ?_⟩, fun none => ⟨?_, ?_⟩, ?_, s.sample_stc x,
    fun open' => ?_, s.sample_pending x⟩
  · rw [theta, State.atAdvance_theta still]
    rfl
  · have steps := State.worked_ctb_of_no_wrap x ready none
    rw [State.sample_ctb]
    exact steps.c_eq fits
  · rw [own, Ctb.advance]
    simp [Ctb.nextAdvance, Ctb.fEff]
  · rw [common, Ctb.advance]
    simp [Ctb.nextAdvance, Ctb.fEff]
  · rw [copy, if_pos wrap]
  · rw [pls, if_pos wrap, State.applyPending_of_some pending]
    exact ⟨Pls.profile_setProfile_same _ _ _, fun j other => Pls.profile_setProfile_ne _ _ other⟩
  · rw [pls, if_pos wrap, State.applyPending_of_none none]
  · rw [copy, if_neg (by simp [none])]
  · rw [pls, if_neg (by simp [none])]
  · rw [pls]
    split
    · exact s.applyPending_ring
    · rfl
  · rw [State.sample_freeCount, State.worked_of_undisputed ready open', State.stepWork_freeCount, State.atWork_freeCount]

end Sys2Proof.Machine
end

section
/-! PROOFS. The evaluation of the lock and the phase capture (O11, O12), and the common wrap of a sample event (O10). -/

namespace Sys2Proof.Machine

/-! ### The evaluation with errors -/

section
variable {s : State}

theorem clampAbs_natAbs_le (m : Nat) (v : Int) : clampAbs m (clampAbs m v) = clampAbs m v :=
  clampAbs_of_le (natAbs_clampAbs_le m v)

/-- The records decide the errors by number, freshness and error. -/
theorem State.mem_freshErrors {n : Station} {e : Int} : (n, e) ∈ s.freshErrors ↔ s.expectedPeer n = true
    ∧ (s.ptb.peer n).fresh = true ∧ (s.ptb.peer n).error = e := by
  simp only [State.freshErrors, List.mem_map, List.mem_filter, Bool.and_eq_true, Prod.mk.injEq]
  constructor
  · rintro ⟨m, ⟨-, expected, fresh⟩, rfl, error⟩
    exact ⟨expected, fresh, error⟩
  · rintro ⟨expected, fresh, error⟩
    exact ⟨n, ⟨mem_stations n, expected, fresh⟩, rfl, error⟩

theorem nextStreak_of_all {k : Nat} {errors : List Int} (h : ∀ e ∈ errors, e.natAbs ≤ 2 ^ 22) :
    nextStreak k errors = min 4 (k + 1) := by
  rw [nextStreak, if_pos (by simpa using h)]

theorem nextStreak_of_any {k : Nat} {errors : List Int} (h : ∃ e ∈ errors, e.natAbs > 2 ^ 22) :
    nextStreak k errors = 0 := by
  rw [nextStreak, if_neg]
  simpa using h

theorem nextLock_of_locked {streak : Nat} {errors : List Int} :
    nextLock .locked streak errors = if ∃ e ∈ errors, e.natAbs > 2 ^ 24 then .seeking else .locked := by
  simp [nextLock]

theorem nextLock_of_not_locked {k : LockState} (h : k ≠ .locked) {streak : Nat} {errors : List Int} :
    nextLock k streak errors = if streak = 4 then .locked else .seeking := by
  cases k with
  | locked => exact absurd rfl h
  | _ => rfl

/-- An error beyond the capture threshold leaves no lock (R125, R126). -/
theorem State.lockAfter_of_far {n : Station} {e : Int} (mem : (n, e) ∈ s.freshErrors) (far : e.natAbs > 2 ^ 26) :
    s.lockAfter = .seeking := by
  have error : e ∈ s.freshErrors.map (·.2) := List.mem_map.2 ⟨_, mem, rfl⟩
  unfold State.lockAfter
  by_cases locked : s.lck.state = .locked
  · rw [locked, nextLock_of_locked, if_pos ⟨e, error, by omega⟩]
  · rw [nextLock_of_not_locked locked, nextStreak_of_any ⟨e, error, by omega⟩, if_neg (by decide)]

/-! ### The lowest station that passes a test -/

theorem stations_split (n : Station) : stations = stations.take n.toNat ++ n :: stations.drop (n.toNat + 1) := by
  revert n
  decide

theorem lt_of_mem_take_stations (n m : Station) (mem : m ∈ stations.take n.toNat) : m.toNat < n.toNat := by
  revert n m
  decide

theorem find?_stations {p : Station → Bool} {n : Station} (passes : p n = true)
    (below : ∀ m : Station, m.toNat < n.toNat → p m = false) : stations.find? p = some n := by
  refine List.find?_eq_some_iff_append.2 ⟨passes, _, _, stations_split n, fun m mem => ?_⟩
  simp [below m (lt_of_mem_take_stations n m mem)]

/-- The error of a capture is that of the lowest-numbered fresh peer below the station's own number (R126). -/
theorem State.captureError_of_lowest {n : Station} {e : Int} (dark : s.syn.out = .dark)
    (rests : s.seq.state = .idle ∨ s.seq.state = .suspended ∨ s.seq.state = .tripped ∨ s.seq.state = .faulted)
    (expected : s.expectedPeer n = true) (fresh : (s.ptb.peer n).fresh = true) (error : (s.ptb.peer n).error = e)
    (below : n.toNat < s.own.toNat) (lowest : ∀ m : Station, m.toNat < n.toNat → (s.ptb.peer m).fresh = false)
    (far : e.natAbs > 2 ^ 26) {lock : LockState} (open' : lock ≠ .locked) : s.captureError lock = some e := by
  have first : s.freshErrors.find? (fun p => p.1.toNat < s.own.toNat) = some (n, e) := by
    rw [State.freshErrors, List.find?_map, List.find?_filter, find?_stations (n := n)]
    · rw [Option.map_some, error]
    · simp [expected, fresh, below]
    · intro m less
      simp [lowest m less]
  have passed : (lock ≠ .locked && s.syn.out = .dark && (s.seq.state = .idle || s.seq.state = .suspended
      || s.seq.state = .tripped || s.seq.state = .faulted)) = true := by
    obtain state | state | state | state := rests <;> simp [open', dark, state]
  unfold State.captureError
  rw [if_pos passed, first]
  exact if_pos far

end

/-- Settles O12: a capture is made from the lowest fresh peer (`State.captureError_of_lowest`), and in no other case
(`State.captureError_eq_some`). -/
theorem captureMovesThetaByTheError : Obligations.CaptureMovesThetaByTheError := by
  unfold Obligations.CaptureMovesThetaByTheError
  refine ⟨fun s n e dark rests expected fresh error below lowest far _ => ?_, fun s fBase moved => ?_⟩
  · have mem : (n, e) ∈ s.freshErrors := State.mem_freshErrors.2 ⟨expected, fresh, error⟩
    have seeking := State.lockAfter_of_far mem far
    have capture : s.captureError s.lockAfter = some e :=
      State.captureError_of_lowest dark rests expected fresh error below lowest far (by simp [seeking])
    refine ⟨_, rfl, ?_⟩
    rw [State.evaluateLock_of_capture (List.ne_nil_of_mem mem) capture, seeking]
    refine ⟨?_, rfl, rfl, fun m other => ?_, ?_, ?_⟩
    · have zero : ∀ c : Ctb, c.writeC 0 = { c with c := 0 } := fun c => by
        rw [Ctb.writeC, clampAbs_of_le (by simp)]
      rw [State.setLnk_ctb, State.setPtb_ctb, State.setCtb_ctb, zero]
      rfl
    · rw [State.setLnk_ptb, State.setPtb_ptb, Ptb.peer_unfresh, if_neg other]
    · rw [State.setLnk_ptb, State.setPtb_ptb, Ptb.peer_unfresh, if_pos rfl]
    · refine ⟨fun b outside => ?_, rfl, rfl⟩
      cases b with
      | ctb | lck | ptb | lnk => simp at outside
      | _ => rfl
  · obtain none | ⟨e, capture⟩ := Option.eq_none_or_eq_some (s.captureError s.lockAfter)
    · exact absurd (State.evaluateLock_ctb_theta none) moved
    · obtain ⟨dark, rests, n, -, below, -⟩ := State.captureError_eq_some capture
      refine ⟨dark, fun zero => ?_, rests⟩
      rw [zero] at below
      exact absurd below (Nat.not_lt_zero _)

end Sys2Proof.Machine
end

section
/-! PROOFS. The one evaluation of the lock that a common wrap makes (O11). -/

namespace Sys2Proof.Machine

section
variable {s t : State} {fBase : Nat}

/-! ### What an evaluation depends on -/

theorem State.freshErrors_congr (stc : t.stc = s.stc)
    (fresh : ∀ n, (t.ptb.peer n).fresh = (s.ptb.peer n).fresh)
    (error : ∀ n, (t.ptb.peer n).error = (s.ptb.peer n).error) : t.freshErrors = s.freshErrors := by
  unfold State.freshErrors State.expectedPeer State.count State.own
  simp only [stc, fresh, error]

theorem State.captureError_congr (stc : t.stc = s.stc) (out : t.syn.out = s.syn.out) (seq : t.seq.state = s.seq.state)
    (errors : t.freshErrors = s.freshErrors) (lock : LockState) : t.captureError lock = s.captureError lock := by
  unfold State.captureError State.own
  rw [stc, out, seq, errors]

/-- LCK and CTB after an evaluation follow from the errors, the capture they make, LCK and CTB (R124, R125). -/
theorem State.evaluateLock_congr (stc : t.stc = s.stc) (errors : t.freshErrors = s.freshErrors)
    (capture : ∀ lock, t.captureError lock = s.captureError lock) (lck : t.lck = s.lck) (ctb : t.ctb = s.ctb) :
    (t.evaluateLock fBase).lck = (s.evaluateLock fBase).lck ∧ (t.evaluateLock fBase).ctb = (s.evaluateLock fBase).ctb := by
  have after : t.lockAfter = s.lockAfter := by rw [State.lockAfter, State.lockAfter, errors, lck]
  have gain : t.gainShift = s.gainShift := by rw [State.gainShift, State.gainShift, stc]
  by_cases none : s.freshErrors = []
  · rw [State.evaluateLock_of_no_errors none, State.evaluateLock_of_no_errors (errors.trans none), lck, ctb]
    exact ⟨rfl, rfl⟩
  · have none' : t.freshErrors ≠ [] := by rwa [errors]
    have capture' := capture s.lockAfter
    cases captured : s.captureError s.lockAfter with
    | some e =>
      rw [State.evaluateLock_of_capture none captured,
        State.evaluateLock_of_capture none' (e := e) (by rw [after, capture', captured]), after, lck, ctb]
      exact ⟨rfl, rfl⟩
    | none =>
      rw [State.evaluateLock_of_errors none captured,
        State.evaluateLock_of_errors none' (by rw [after, capture', captured]), after, errors, lck, ctb, gain]
      exact ⟨rfl, rfl⟩

/-- The records after an evaluation (R14). -/
theorem State.evaluateLock_ptb_congr (stc : t.stc = s.stc) (errors : t.freshErrors = s.freshErrors)
    (capture : ∀ lock, t.captureError lock = s.captureError lock) (lck : t.lck = s.lck) (ptb : t.ptb = s.ptb) :
    (t.evaluateLock fBase).ptb = (s.evaluateLock fBase).ptb := by
  have after : t.lockAfter = s.lockAfter := by rw [State.lockAfter, State.lockAfter, errors, lck]
  have capture' := capture s.lockAfter
  cases captured : s.captureError s.lockAfter with
  | none =>
    rw [State.evaluateLock_ptb captured, State.evaluateLock_ptb (by rw [after, capture', captured]), ptb]
  | some e =>
    have some' : s.freshErrors ≠ [] := by
      obtain ⟨-, -, n, expected, -, fresh, error, -⟩ := State.captureError_eq_some captured
      exact List.ne_nil_of_mem (State.mem_freshErrors.2 ⟨expected, fresh, error⟩)
    rw [State.evaluateLock_of_capture some' captured,
      State.evaluateLock_of_capture (by rwa [errors]) (e := e) (by rw [after, capture', captured])]
    simp only [State.setLnk_ptb, State.setPtb_ptb, ptb, State.own_congr stc]

/-- C after an evaluation lies within F >> 10 (R10). -/
theorem State.evaluateLock_c_le (s : State) (fBase : Nat) : (s.evaluateLock fBase).ctb.c.natAbs ≤ s.ctb.f >>> 10 := by
  simp only [State.evaluateLock]
  split
  · exact Ctb.writeC_c_le _ _
  · split
    · exact Ctb.writeC_c_le (s.ctb.capture _) _
    · exact Ctb.writeC_c_le _ _

/-! ### The evaluation of the wrap -/

/-- The state that the statements evaluate for a common wrap: CTB advanced and the records aged. -/
def State.aged (s : State) : State := (s.setCtb s.ctb.advance).setPtb (s.ptb.aged s.own)

/-- With no loss to hand on the wrap evaluates the lock at once (R123). -/
theorem State.carryEvaluation_of_waiting {f : Nat} (waiting : s.lck.waiting = some f) (loss : s.anyLossDue = false) :
    s.carryEvaluation = (s.setLck { s.lck with waiting := none }).evaluateLock f := by
  rw [State.carryEvaluation, waiting]
  simp [loss]

/-- With one it waits. -/
theorem State.carryEvaluation_of_loss (loss : s.anyLossDue = true) : s.carryEvaluation = s := by
  unfold State.carryEvaluation
  split
  · rw [if_pos loss]
  · rfl

theorem State.marked_anyLossDue (x : SampleInputs) (wrap : s.ctb.nextAdvance.commonWrap = true) :
    ((s.setCtb s.ctb.advance).marked s.ctb.nextAdvance).anyLossDue = (s.atWork x).anyLossDue := by
  obtain ⟨-, ptb, -⟩ := (s.setCtb s.ctb.advance).commonWrap_carryEvaluation s.ctb.nextAdvance
  refine (State.anyLossDue_congr fun n => ?_).symm
  have peer := ((s.setCtb s.ctb.advance).marked s.ctb.nextAdvance).carryEvaluation_peer n
  refine State.lossDue_congr (s := (s.setCtb s.ctb.advance).marked s.ctb.nextAdvance) (s.atWork_stc x) ?_ ?_
  · rw [State.atWork_ptb, State.atAdvance, if_pos wrap, ptb, peer]
  · rw [State.atWork_ptb, State.atAdvance, if_pos wrap, ptb, peer]

/-- A wrap without a loss leaves LCK, CTB and the records as the evaluation makes them. -/
theorem State.atAdvance_evaluated (ready : s.ready) (wrap : s.ctb.nextAdvance.commonWrap = true) (quiet : ¬ s.lossAhead)
    (x : SampleInputs) : s.atAdvance.lck = (s.aged.evaluateLock s.ctb.f).lck
      ∧ s.atAdvance.ctb = (s.aged.evaluateLock s.ctb.f).ctb ∧ s.atAdvance.ptb = (s.aged.evaluateLock s.ctb.f).ptb := by
  obtain ⟨ctb, ptb, lck⟩ := (s.setCtb s.ctb.advance).commonWrap_carryEvaluation s.ctb.nextAdvance
  have loss : ((s.setCtb s.ctb.advance).marked s.ctb.nextAdvance).anyLossDue = false := by
    rw [State.marked_anyLossDue x wrap]
    exact Bool.eq_false_iff.2 fun due => quiet ((State.anyLossDue_atWork_iff x ready).1 due)
  obtain ⟨-, -, -, -, waiting, -⟩ := ready.nothing_due
  rw [State.carryEvaluation_of_waiting rfl loss] at ctb ptb lck
  obtain ⟨m, marked⟩ : ∃ m, m = ((s.setCtb s.ctb.advance).marked s.ctb.nextAdvance).setLck
      { ((s.setCtb s.ctb.advance).marked s.ctb.nextAdvance).lck with waiting := none } := ⟨_, rfl⟩
  rw [← marked] at ctb ptb lck
  have stc : m.stc = s.aged.stc := by rw [marked]; rfl
  have records : m.ptb = s.aged.ptb := by rw [marked]; rfl
  have lock : m.lck = s.aged.lck := by
    rw [marked]
    change { s.lck with waiting := none } = s.lck
    rw [← waiting]
  have timebase : m.ctb = s.aged.ctb := by rw [marked]; rfl
  have errors : m.freshErrors = s.aged.freshErrors :=
    State.freshErrors_congr stc (fun n => by rw [records]) fun n => by rw [records]
  have capture := State.captureError_congr stc (by rw [marked]; rfl) (by rw [marked]; rfl) errors
  have same := State.evaluateLock_congr (fBase := s.ctb.f) stc errors capture lock timebase
  rw [State.atAdvance, if_pos wrap, ctb, ptb, lck]
  exact ⟨same.1, same.2, State.evaluateLock_ptb_congr stc errors capture lock records⟩

/-- A wrap with a loss leaves the evaluation waiting. -/
theorem State.atAdvance_waits (ready : s.ready) (loss : s.lossAhead) (x : SampleInputs) :
    s.atAdvance.lck = { s.lck with waiting := some s.ctb.f } ∧ s.atAdvance.ctb = s.ctb.advance
      ∧ s.atAdvance.ptb = s.ptb.aged s.own := by
  have wrap := loss.1
  obtain ⟨ctb, ptb, lck⟩ := (s.setCtb s.ctb.advance).commonWrap_carryEvaluation s.ctb.nextAdvance
  have due : ((s.setCtb s.ctb.advance).marked s.ctb.nextAdvance).anyLossDue = true := by
    rw [State.marked_anyLossDue x wrap]
    exact (State.anyLossDue_atWork_iff x ready).2 loss
  rw [State.carryEvaluation_of_loss due] at ctb ptb lck
  rw [State.atAdvance, if_pos wrap, ctb, ptb, lck]
  exact ⟨rfl, rfl, rfl⟩

/-- The losses that come before SEQ's work are followed by the evaluation of the wrap (R123). -/
theorem State.losses_evaluated (ready : s.ready) (loss : s.lossAhead) (works : s.mayWork = true)
    (mild : s.policyInForce ≠ .follow) (x : SampleInputs) (n : Nat) :
    let u := ((s.atWork x).setFreeCount n).carryLosses.carryEvaluation
    u.lck = (s.aged.evaluateLock s.ctb.f).lck ∧ u.ctb = (s.aged.evaluateLock s.ctb.f).ctb := by
  obtain ⟨lck, ctb, ptb⟩ := State.atAdvance_waits ready loss x
  have works' : ((s.atWork x).setFreeCount n).mayWork = true := by
    change (s.atWork x).mayWork = true
    rwa [State.atWork_mayWork]
  have mild' : ((s.atWork x).setFreeCount n).policyInForce ≠ .follow := by
    change (s.atWork x).policyInForce ≠ .follow
    rwa [State.atWork_policyInForce]
  obtain ⟨t, counted⟩ : ∃ t, t = (s.atWork x).setFreeCount n := ⟨_, rfl⟩
  have stc : t.stc = s.stc := by rw [counted]; exact s.atWork_stc x
  have records : t.ptb = s.ptb.aged s.own := by rw [counted, ← ptb]; exact s.atWork_ptb x
  have timebase : t.ctb = s.ctb.advance := by rw [counted, ← ctb]; exact s.atWork_ctb x
  have lock : t.lck = { s.lck with waiting := some s.ctb.f } := by rw [counted, ← lck]; exact s.atWork_lck x
  rw [← counted] at mild' works' ⊢
  have lost := State.Mild.carryLosses mild'
  have none := t.carryLosses_anyLossDue
  have peer := t.carryLosses_peer
  generalize t.carryLosses = w at lost none peer ⊢
  have working : w.mayWork = true ∨ w.seq.state = .frozen := by
    have state := lost.state
    unfold freezesOrThaws at state
    simp only [State.mayWork, Bool.or_eq_true, decide_eq_true_eq] at works' ⊢
    grind
  obtain ⟨-, -, -, -, waiting, -⟩ := ready.nothing_due
  dsimp only
  rw [State.carryEvaluation_of_waiting (f := s.ctb.f) (by rw [lost.lck, lock]) none]
  have fresh : ∀ m, (w.ptb.peer m).fresh = (s.aged.ptb.peer m).fresh ∧ (w.ptb.peer m).error = (s.aged.ptb.peer m).error := by
    intro m
    rw [peer, records]
    split <;> exact ⟨rfl, rfl⟩
  have same : (w.setLck { w.lck with waiting := Option.none }).stc = s.aged.stc := lost.stc.trans stc
  refine State.evaluateLock_congr same (State.freshErrors_congr same (fun m => (fresh m).1) fun m => (fresh m).2)
    (fun lock => ?_) ?_ ?_
  · exact (State.captureError_of_state (s := w.setLck _) (State.not_at_rest (s := w) working) lock).trans
      (State.captureError_of_state (s := s.aged) (State.not_at_rest (s := s) (.inl works)) lock).symm
  · rw [State.setLck_lck, lost.lck, lock]
    change { s.lck with waiting := Option.none } = s.lck
    rw [← waiting]
  · rw [State.setLck_ctb, lost.ctb, timebase]
    rfl

end

/-- Settles O11: an evaluation without and with errors, and the one of a common wrap, which is made at once
(`State.atAdvance_evaluated`), with the losses that come first (`State.losses_evaluated`), or waits. -/
theorem lockEvaluation : Obligations.LockEvaluation := by
  unfold Obligations.LockEvaluation
  refine ⟨fun s fBase none => State.evaluateLock_of_no_errors none, fun s errors same some' quiet => ?_,
    fun s x ready wrap => ?_⟩
  · subst same
    have errors : s.freshErrors ≠ [] := fun none => some' (by rw [none]; rfl)
    dsimp only
    rw [State.evaluateLock_of_errors errors (State.captureError_of_noCapture quiet _)]
    have raw : correction (s.freshErrors.map (·.2)) s.ctb.f s.gainShift
        = -Int.tdiv ((s.freshErrors.map (·.2)).sum * s.ctb.f)
            ((((s.freshErrors.map (·.2)).length + 1) * 2 ^ (33 + s.stc.straps.gainSelect.toNat) : Nat)) := by
      rw [correction, truncDiv]
      push_cast
      rfl
    rw [raw]
    generalize -Int.tdiv _ _ = v
    refine ⟨?_, ?_, fun all => ?_, fun any => ?_, fun open' => ?_, fun locked => ?_, fun b outside => ?_, rfl, rfl⟩
    · rw [State.setCtb_ctb, Ctb.writeC, clampAbs_natAbs_le]
      rfl
    · simp only [State.setCtb_lck, State.setLck_lck, natAbs_gt_iff, Bool.or_eq_true, decide_eq_true_eq]
    · exact nextStreak_of_all all
    · exact nextStreak_of_any any
    · exact nextLock_of_not_locked open'
    · simp only [State.setCtb_lck, State.setLck_lck, State.lockAfter, locked]
      exact nextLock_of_locked
    · cases b with
      | ctb | lck => simp at outside
      | _ => rfl
  · obtain ⟨-, -, -, -, waiting, -⟩ := ready.nothing_due
    have fits := State.evaluateLock_c_le s.aged s.ctb.f
    have base : (s.aged.evaluateLock s.ctb.f).ctb.f = s.aged.ctb.f := by rw [State.evaluateLock_ctb]
    have clamped : (s.aged.evaluateLock s.ctb.f).ctb.stepsTo (s.worked x).ctb → (s.sample x).ctb.c
        = clampAbs ((s.sample x).ctb.f >>> 10 : Nat) (s.aged.evaluateLock s.ctb.f).ctb.c := by
      intro steps
      rw [State.sample_ctb]
      exact steps.c_eq (by rw [base]; exact fits)
    obtain ⟨-, -, theta, -⟩ := s.sample_ctb_fields x
    refine ⟨s.sample x, exec_sampleEvent_of_ready ready x, ?_⟩
    by_cases loss : s.lossAhead
    · obtain ⟨lck, ctb, ptb⟩ := State.atAdvance_waits ready loss x
      have still : s.atAdvance.ctb.theta = s.ctb.nextAdvance.theta := by rw [ctb]; rfl
      obtain ⟨n, works⟩ | ⟨-, works, mild, n, worked⟩ := State.worked_cases x ready
      · have waits : (s.sample x).lck = { s.lck with waiting := some s.ctb.f } := by
          rw [State.sample_lck, works.lck, State.setFreeCount_lck, State.atWork_lck, lck]
        have due : (s.sample x).anyLossDue = true := by
          rw [← (State.anyLossDue_atWork_iff x ready).2 loss]
          have same : (s.sample x).ptb = (s.atWork x).ptb := by
            rw [State.sample_ptb, works.ptb, State.setFreeCount_ptb]
          refine State.anyLossDue_congr fun m => State.lossDue_congr ?_ (by rw [same]) (by rw [same])
          rw [State.sample_stc, State.atWork_stc]
        refine ⟨.inr ⟨loss, due, waits, theta.trans still⟩, fun evaluated => ?_, fun quiet => absurd loss quiet⟩
        rw [waits] at evaluated
        have clear := congrArg Lck.waiting evaluated
        rw [State.evaluateLock_waiting] at clear
        exact absurd (clear.trans waiting) (by simp)
      · obtain ⟨lock, timebase⟩ := State.losses_evaluated ready loss works mild x n
        have evaluated : (s.sample x).lck = (s.aged.evaluateLock s.ctb.f).lck := by
          rw [State.sample_lck, worked, State.stepWork_lck]
          exact lock
        refine ⟨.inl evaluated, fun _ => ⟨?_, clamped ?_⟩, fun quiet => absurd loss quiet⟩
        · rw [theta, still]
          have none := State.captureError_of_state (s := s.aged) (State.not_at_rest (s := s) (.inl works))
          exact (State.evaluateLock_ctb_theta (none _)).symm
        · rw [← timebase, worked]
          exact State.worksFrom.ctb (.inl rfl)
    · obtain ⟨lck, ctb, ptb⟩ := State.atAdvance_evaluated ready wrap loss x
      obtain ⟨n, works⟩ | ⟨ahead, -⟩ := State.worked_cases x ready
      · have evaluated : (s.sample x).lck = (s.aged.evaluateLock s.ctb.f).lck := by
          rw [State.sample_lck, works.lck, State.setFreeCount_lck, State.atWork_lck, lck]
        have records : (s.sample x).ptb = (s.aged.evaluateLock s.ctb.f).ptb := by
          rw [State.sample_ptb, works.ptb, State.setFreeCount_ptb, State.atWork_ptb, ptb]
        refine ⟨.inl evaluated, fun _ => ⟨by rw [theta, ctb]; rfl, clamped ?_⟩, fun _ => ⟨evaluated, records⟩⟩
        have steps := works.ctb
        rwa [State.setFreeCount_ctb, State.atWork_ctb, ctb] at steps
      · exact absurd ahead loss

end Sys2Proof.Machine
end

section
/-! PROOFS. The values at the end of the start sequence and the first sample event after it (O6). -/

namespace Sys2Proof.Machine

section
variable (s : State) (straps : Straps)

/-- At the end of the start sequence nothing is due. -/
theorem State.startUp_ready : (s.startUp straps).ready := by
  have ends : (s.startUp straps).endingStep = none := State.endingStep_of_no_image (s.startUp_image straps)
  have loss : (s.startUp straps).anyLossDue = false := by
    refine State.anyLossDue_eq_false_iff.2 fun n => Bool.eq_false_iff.2 fun due => ?_
    obtain ⟨-, -, present, old⟩ := State.lossDue_iff.1 due
    rw [State.startUp_peer] at present old
    split at present
    next own => rw [if_pos own] at old; exact absurd old (by decide)
    next => exact nomatch present
  refine ⟨rfl, ?_⟩
  rw [State.due, ends, loss, State.startUp_syn, State.startUp_ctb, State.startUp_ftu]
  rfl

theorem State.offsets_getElem (select : BitVec 3) :
    ([0, 1431655765, 2863311531, 2147483648, 1073741824, 3221225472, 715827883, 3579139413] : List Phase)[select.toNat]?
      = some (offsetOf select) := by
  revert select
  decide

/-- F at the end of the start sequence: from the SETUP that stands (R16). -/
theorem State.startUp_f : (s.startUp straps).ctb.f
    = if s.stc.pendingCause = some .resetPin then incrementOf s.stc.setup.frequency else 8388608 := by
  have default : incrementOf Setup.default.frequency = 8388608 := by decide
  have cause : s.causeOfStart = .resetPin ↔ s.stc.pendingCause = some .resetPin := by
    rw [State.causeOfStart]
    cases s.stc.pendingCause <;> simp
  rw [State.startUp_ctb]
  dsimp only
  rw [State.setupAtStart, apply_ite Setup.frequency, apply_ite incrementOf, default]
  simp only [cause]

end

/-- Settles O6: the start values, and a first sample that is no common wrap (`State.atAdvance_theta`). -/
theorem startValuesOfTheBlocks : Obligations.StartValuesOfTheBlocks := by
  unfold Obligations.StartValuesOfTheBlocks
  refine ⟨fun s straps cause stage _ pending => ?_, fun s straps x stage _ => ?_⟩
  · obtain ⟨started, setup, pls⟩ := State.startUp_causes (straps := straps) pending
    obtain ⟨y, queue, reports⟩ := s.startUp_queue straps
    have fields : y.cause = .start ∧ y.startCause = (s.startUp straps).stc.startCause
        ∧ y.seq = (s.startUp straps).seq.state ∧ y.faultCause = (s.startUp straps).seq.faultCause := by
      rw [reports.1]
      exact ⟨rfl, rfl, rfl, rfl⟩
    obtain ⟨status, causes, seq, fault⟩ := fields
    refine ⟨s.startUp straps, by rw [exec_oscillatorCountEnd, if_pos stage], rfl, started, rfl, rfl, rfl, setup, pls,
      s.startUp_seq_state straps, rfl, rfl, rfl, rfl, rfl, rfl, rfl, rfl, rfl, rfl, rfl, rfl, rfl, rfl, rfl,
      fun i => Ovl.slot_allOff i, rfl, s.startUp_peer straps, rfl, rfl, rfl, rfl, rfl, rfl, rfl, rfl, rfl, rfl, rfl, rfl,
      rfl, y, queue, status, causes.trans started, seq, fault, reports⟩
  · obtain ⟨t, begun⟩ : ∃ t, t = s.startUp straps := ⟨_, rfl⟩
    have ctb : t.ctb = { tick := 0, divider := 0, theta := t.ctb.delta, delta := t.ctb.delta, f := t.ctb.f
                         ramp := none, c := 0, ownCycles := 0, commonCycles := 0 } := by rw [begun]; rfl
    have delta : t.ctb.delta = offsetOf straps.offsetSelect := by rw [begun]; rfl
    have f : t.ctb.f = if s.stc.pendingCause = some .resetPin then incrementOf s.stc.setup.frequency else 8388608 := by
      rw [begun, State.startUp_f]
    have ready : t.ready := by rw [begun]; exact s.startUp_ready straps
    have none : t.ctb.nextAdvance.commonWrap = false := by
      rw [ctb]
      simp [Ctb.nextAdvance]
    have eff : t.ctb.fEff = t.ctb.f := by
      rw [ctb]
      simp [Ctb.fEff]
    obtain ⟨tick, -, theta, -⟩ := t.sample_ctb_fields x
    refine ⟨t, t.sample x, by rw [exec_oscillatorCountEnd, if_pos stage, begun], ?_, ?_, ?_,
      exec_sampleEvent_of_ready ready x, ?_, ?_⟩
    · rw [delta]
      exact State.offsets_getElem _
    · rw [← f]
      exact ctb
    · rw [Ctb.thetaC, ctb]
      simp
    · rw [tick, Ctb.advance, ctb]
      rfl
    · rw [theta, State.atAdvance_theta (.inr none), Ctb.nextAdvance, eff, ctb]

end Sys2Proof.Machine
end

section
/-! PROOFS. The sine table, the terms of a sample, and the replacing stage (O13, O15, O16). -/

namespace Sys2Proof.Machine

/-! ### The sine table -/

/-- Every entry of the table's first quarter fits the code range (R19). -/
theorem sineQuarters_le : ∀ l ∈ sineQuarters, ∀ n ∈ l, n ≤ 32767 := by
  have every : (sineQuarters.all fun l => l.all fun n => Nat.ble n 32767) = true := rfl
  simpa using every

theorem sineQuarter_le (i : Nat) : sineQuarter i ≤ 32767 := by
  unfold sineQuarter
  split
  · exact le_rfl
  · rw [List.getD_eq_getElem?_getD, List.getD_eq_getElem?_getD]
    cases chunk : sineQuarters[i / 64]? with
    | none => simp
    | some l =>
      cases entry : l[i % 64]? with
      | none => simp [entry]
      | some n => simpa [entry] using sineQuarters_le l (List.mem_of_getElem? chunk) n (List.mem_of_getElem? entry)

theorem sineAt_bounds (i : Nat) : -32767 ≤ sineAt i ∧ sineAt i ≤ 32767 := by
  have direct := sineQuarter_le i
  have mirrored := sineQuarter_le (2048 - i)
  have negated := sineQuarter_le (i - 2048)
  have both := sineQuarter_le (4096 - i)
  unfold sineAt
  split_ifs <;> omega

theorem sine_bounds (x : Phase) : -32767 ≤ sine x ∧ sine x ≤ 32767 := sineAt_bounds _

/-- S at 2,048 − i is S at i (R19). -/
theorem sineAt_mirror {i : Nat} (least : 1 ≤ i) (most : i ≤ 2047) : sineAt (2048 - i) = sineAt i := by
  unfold sineAt
  rcases Nat.lt_trichotomy i 1024 with below | rfl | above
  · rw [if_neg (by omega), if_pos (by omega), if_pos (by omega), show 2048 - (2048 - i) = i by omega]
  · rfl
  · rw [if_pos (by omega), if_neg (by omega), if_pos (by omega)]

/-- S at 4,096 − i is −S at i (R19). -/
theorem sineAt_opposite {i : Nat} (least : 1 ≤ i) (most : i ≤ 2047) : sineAt (4096 - i) = -sineAt i := by
  unfold sineAt
  rw [if_neg (by omega), if_neg (by omega)]
  rcases Nat.lt_trichotomy i 1024 with below | rfl | above
  · rw [if_neg (by omega), if_pos (by omega), show 4096 - (4096 - i) = i by omega]
  · rfl
  · rw [if_pos (by omega), if_neg (by omega), if_pos (by omega), show 4096 - i - 2048 = 2048 - i by omega]

/-! ### Q15 products -/

theorem q15_eq (a b : Int) : q15 a b = (a * b + 16384) / 32768 := rfl

/-- A value of the table times an amplitude of at most m (R19). -/
theorem sine_mul_bounds (x : Phase) {a m : Nat} (most : a ≤ m) :
    -(32767 * (m : Int)) ≤ sine x * a ∧ sine x * a ≤ 32767 * (m : Int) := by
  obtain ⟨low, high⟩ := sine_bounds x
  constructor <;> nlinarith [show (a : Int) ≤ m by exact_mod_cast most, show (0 : Int) ≤ a by positivity]

/-- The amplitude stays within 49,150 for the values the station forms (R24). -/
theorem amplitude_le {pNom level phi : Nat} (nominal : pNom ≤ 32767) (levels : level ≤ 15000) (factor : phi ≤ 1024) :
    amplitude pNom level phi ≤ 49150 := by
  have product : pNom * level * phi ≤ 32767 * 15000 * 1024 :=
    Nat.mul_le_mul (Nat.mul_le_mul nominal levels) factor
  unfold amplitude
  omega

/-- A tone's amplitude stays within 16,383 (R42). -/
theorem tone_amplitude_le {pNom level phi : Nat} (nominal : pNom ≤ 32767) (levels : level ≤ 5000)
    (factor : phi ≤ 1024) : pNom * level * phi / 10240000 ≤ 16383 := by
  have product : pNom * level * phi ≤ 32767 * 5000 * 1024 :=
    Nat.mul_le_mul (Nat.mul_le_mul nominal levels) factor
  omega

/-- Settles O13: the bounds from the first quarter's entries, the symmetries index by index. -/
theorem sineTableAndFundamentalTerm : Obligations.SineTableAndFundamentalTerm := by
  unfold Obligations.SineTableAndFundamentalTerm
  refine ⟨⟨sine_bounds, fun i least most => ⟨sineAt_opposite least most, sineAt_mirror least most⟩, ?_⟩,
    fun pNom level phi nominal levels factor => ⟨rfl, amplitude_le nominal levels factor⟩,
    fun theta a most => ⟨rfl, ?_⟩, by decide, by decide⟩
  · decide
  · obtain ⟨low, high⟩ := sine_mul_bounds theta most
    rw [fundamental, q15_eq]
    omega

/-- Settles O16: the Q15 product of the tone's amplitude, and the other kinds one by one. -/
theorem additiveTerms : Obligations.AdditiveTerms := by
  unfold Obligations.AdditiveTerms
  refine ⟨fun f inc b p pNom phi nominal levels factor => ⟨rfl, ?_⟩, fun c pNom phi => rfl, fun x pNom phi kind => ?_⟩
  · obtain ⟨low, high⟩ := sine_mul_bounds p (tone_amplitude_le nominal levels factor)
    rw [OverlaySlot.additive, q15_eq]
    omega
  · cases x with
    | tone f inc b p => simp [OverlaySlot.window] at kind
    | offset c => simp [OverlaySlot.window] at kind
    | off => rfl
    | notch d w0 w1 => rfl
    | flattop b w0 w1 => rfl
    | force c w0 w1 => rfl

/-! ### The sum -/

theorem harmonic_bounds (theta : Phase) {a : Nat} {e : ProfileEntry} (most : a ≤ 49150)
    (entry : e.amplitude.toNat ≤ 400) : -19659 ≤ harmonic theta a e ∧ harmonic theta a e ≤ 19659 := by
  have product : a * e.amplitude.toNat ≤ 49150 * 400 := Nat.mul_le_mul most entry
  have share : (a * e.amplitude.toNat + 500) / 1000 ≤ 19660 := by omega
  obtain ⟨low, high⟩ :=
    sine_mul_bounds (BitVec.ofNat 32 (e.order.toNat * theta.toNat + e.phase.toNat * 65536)) share
  rw [harmonic, q15_eq]
  omega

section
variable (theta : Phase) (a : Nat) (o : Ovl) (pNom phi : Nat)

theorem sigma_nil : sigma theta a [] o pNom phi
    = fundamental theta a
      + ((o.slot 0).additive pNom phi + (o.slot 1).additive pNom phi + (o.slot 2).additive pNom phi
        + (o.slot 3).additive pNom phi + (o.slot 4).additive pNom phi + (o.slot 5).additive pNom phi
        + (o.slot 6).additive pNom phi + (o.slot 7).additive pNom phi) := by
  have eight : overlayIndices = [0, 1, 2, 3, 4, 5, 6, 7] := by decide
  simp only [sigma, eight, List.map_cons, List.map_nil, List.sum_cons, List.sum_nil]
  omega

theorem sigma_cons (e : ProfileEntry) (l : List ProfileEntry) :
    sigma theta a (e :: l) o pNom phi = harmonic theta a e + sigma theta a l o pNom phi := by
  simp only [sigma, List.map_cons, List.sum_cons]
  omega

theorem sigma_perm {l l' : List ProfileEntry} (same : l.Perm l') :
    sigma theta a l o pNom phi = sigma theta a l' o pNom phi := by
  rw [sigma, sigma, (same.map (harmonic theta a)).sum_eq]

end

/-! ### The replacing stage -/

/-- The slots stand in order of number, so a slot that acts with none below it is the first found. -/
theorem overlayIndices_split (i : OverlayIndex) :
    ∃ before after, overlayIndices = before ++ i :: after ∧ ∀ j ∈ before, j.toNat < i.toNat := by
  refine ⟨overlayIndices.take i.toNat, overlayIndices.drop (i.toNat + 1), ?_, ?_⟩ <;> revert i <;> decide

namespace Ovl
variable {o : Ovl} {i : OverlayIndex} {angle : Angle}

theorem acting_of_lowest (acts : (o.slot i).actsAt angle = true)
    (lowest : ∀ j : OverlayIndex, j.toNat < i.toNat → (o.slot j).actsAt angle = false) :
    o.acting angle = some (o.slot i) := by
  obtain ⟨before, after, split, below⟩ := overlayIndices_split i
  rw [acting, split, List.map_append, List.map_cons, List.find?_append, List.find?_eq_none.2, Option.none_or,
    List.find?_cons, acts]
  intro slot named
  obtain ⟨j, place, rfl⟩ := List.mem_map.1 named
  simp [lowest j (below j place)]

theorem acting_eq_none (rest : ∀ j, (o.slot j).actsAt angle = false) : o.acting angle = none := by
  rw [acting, List.find?_eq_none]
  intro slot named
  obtain ⟨j, -, rfl⟩ := List.mem_map.1 named
  simp [rest j]

end Ovl

/-- When a window contains an angle (R44). -/
theorem windowHas_iff {w0 w1 a : Angle} : windowHas w0 w1 a = true ↔
    w0 = w1 ∨ (w0.toNat < w1.toNat ∧ w0.toNat ≤ a.toNat ∧ a.toNat < w1.toNat)
      ∨ (w1.toNat < w0.toNat ∧ (w0.toNat ≤ a.toNat ∨ a.toNat < w1.toNat)) := by
  unfold windowHas
  by_cases whole : w0 = w1
  · simp [whole]
  have apart : w0.toNat ≠ w1.toNat := fun same => whole (BitVec.eq_of_toNat_eq same)
  rw [if_neg whole]
  split_ifs with order
  · simp [whole, order, Nat.not_lt.2 order.le]
  · simp [whole, order, show w1.toNat < w0.toNat by omega]

theorem OverlaySlot.actsAt_iff {x : OverlaySlot} {a : Angle} :
    x.actsAt a = true ↔ ∃ w0 w1, x.window = some (w0, w1) ∧ windowHas w0 w1 a = true := by
  unfold OverlaySlot.actsAt
  cases x.window with
  | none => simp
  | some w => simp [Prod.ext_iff]

/-- Settles O15: the terms as the model forms them, and the first slot found in order of number. -/
theorem lowestReplacingSlotActs : Obligations.LowestReplacingSlotActs := by
  unfold Obligations.LowestReplacingSlotActs
  refine ⟨fun theta a e => ⟨rfl, harmonic_bounds theta⟩,
    fun theta a o pNom phi => ⟨sigma_nil theta a o pNom phi, sigma_cons theta a o pNom phi,
      fun l l' => sigma_perm theta a o pNom phi⟩,
    fun o i theta sum pNom acts lowest => ?_, fun o theta sum pNom rest => ?_, fun x a => ?_⟩
  · have replaced : sigmaReplaced theta sum o pNom = (o.slot i).replace pNom sum := by
      rw [sigmaReplaced, Ovl.acting_of_lowest acts lowest]
    rw [replaced]
    refine ⟨fun d w0 w1 kind => ?_, fun b w0 w1 kind => ?_, fun c w0 w1 kind => ?_⟩ <;> rw [kind] <;> rfl
  · rw [sigmaReplaced, Ovl.acting_eq_none rest]
  · simp only [OverlaySlot.actsAt_iff, windowHas_iff]

end Sys2Proof.Machine
end

section
/-! PROOFS. The start-angle test of an advance and of the advances after it (O21). -/

namespace Sys2Proof.Machine

theorem angleMet_iff {angle : Angle} {a : Advance} :
    angleMet (some angle) a = true ↔ (a.theta - BitVec.ofNat 32 (angle.toNat * 65536)).toNat < a.fEff :=
  decide_eq_true_iff

/-- The test is passed just when the angle lies in the arc of the advance (R76). -/
theorem angleMet_iff_covered {angle : Angle} {a : Advance} :
    angleMet (some angle) a = true ↔
      ∃ d, d < a.fEff ∧ a.theta = BitVec.ofNat 32 (angle.toNat * 65536) + BitVec.ofNat 32 d := by
  rw [angleMet_iff]
  constructor
  · intro within
    exact ⟨_, within, by rw [BitVec.ofNat_toNat, BitVec.setWidth_eq]; bv_omega⟩
  · rintro ⟨d, within, reached⟩
    have gap : a.theta - BitVec.ofNat 32 (angle.toNat * 65536) = BitVec.ofNat 32 d := by
      rw [reached]
      bv_omega
    rw [gap, BitVec.toNat_ofNat]
    exact (Nat.mod_le _ _).trans_lt within

/-! ### The advances that follow under a standing increment -/

theorem Ctb.fEff_advance_iterate (c : Ctb) (n : Nat) : (Ctb.advance^[n] c).fEff = c.fEff := by
  induction n with
  | zero => rfl
  | succ n ih => rw [Function.iterate_succ_apply']; exact ih

theorem Ctb.theta_advance_iterate (c : Ctb) (n : Nat) :
    (Ctb.advance^[n] c).nextAdvance.theta = c.nextAdvance.theta + BitVec.ofNat 32 (n * c.fEff) := by
  induction n with
  | zero => simp
  | succ n ih =>
    rw [Function.iterate_succ_apply']
    calc (Ctb.advance (Ctb.advance^[n] c)).nextAdvance.theta
        = (Ctb.advance^[n] c).nextAdvance.theta + BitVec.ofNat 32 (Ctb.advance^[n] c).fEff := rfl
      _ = c.nextAdvance.theta + BitVec.ofNat 32 ((n + 1) * c.fEff) := by
        rw [ih, Ctb.fEff_advance_iterate, Nat.add_one_mul, BitVec.ofNat_add, BitVec.add_assoc]

/-- Settles O21: the arc between the angle and θ grows by the increment on each advance of the turn. -/
theorem startAngleIsReachedOnce : Obligations.StartAngleIsReachedOnce := by
  unfold Obligations.StartAngleIsReachedOnce
  refine ⟨fun c angle _ => angleMet_iff_covered, fun c angle later next turn met => ?_⟩
  obtain ⟨f, step⟩ : ∃ f, c.fEff = f := ⟨_, rfl⟩
  have within := angleMet_iff.1 met
  have arc : (c.nextAdvance.theta + BitVec.ofNat 32 (later * f) - BitVec.ofNat 32 (angle.toNat * 65536)).toNat
      = (c.nextAdvance.theta - BitVec.ofNat 32 (angle.toNat * 65536)).toNat + later * f := by
    have whole : (later + 1) * f = later * f + f := Nat.add_one_mul _ _
    have gap : (c.nextAdvance.theta - BitVec.ofNat 32 (angle.toNat * 65536)).toNat < f := step ▸ within
    rw [step, whole] at turn
    generalize later * f = far at *
    generalize angle.toNat * 65536 = start at *
    bv_omega
  rw [← Bool.not_eq_true, angleMet_iff, Ctb.theta_advance_iterate, step, arc]
  have least : 1 * f ≤ later * f := Nat.mul_le_mul_right f next
  have same : (Ctb.advance^[later] c).nextAdvance.fEff = f := (c.fEff_advance_iterate later).trans step
  omega

end Sys2Proof.Machine
end

section
/-! PROOFS. The walk of a taking and what a taking makes of what it finds (R70–R75, R129). -/

namespace Sys2Proof.Machine

theorem State.onlyChanges.trans {s t u : State} {l : List Block} (h : s.onlyChanges t l) (k : t.onlyChanges u l) :
    s.onlyChanges u l :=
  ⟨fun b outside => by
    have first := h.1 b outside
    have second := k.1 b outside
    cases b <;> exact Eq.trans second first, k.2.1.trans h.2.1, k.2.2.trans h.2.2⟩

/-! ### The walk, marker by marker -/

section
variable {p : Pls} {ring place : Slot} {loop : Option OpenLoop} (fuel : Nat)

theorem walk_of_dead (dead : (p.slot place).live = false) :
    walk p ring (fuel + 1) place loop = { pointer := place, loop := loop, found := .dry } := by
  simp [walk, dead]

theorem walk_of_normal (live : (p.slot place).live = true) (kind : (p.slot place).kind = .normal) :
    walk p ring (fuel + 1) place loop = { pointer := place, loop := loop, found := .step (p.slot place) } := by
  simp [walk, live, kind]

theorem walk_of_begin (live : (p.slot place).live = true) (kind : (p.slot place).kind = .loopBegin) :
    walk p ring (fuel + 1) place none
      = walk p ring fuel (place + 1)
          (some { start := place + 1, remaining := (p.slot place).loopCount.toNat }) := by
  simp [walk, live, kind]

theorem walk_of_nested (live : (p.slot place).live = true) (kind : (p.slot place).kind = .loopBegin)
    (inside : loop ≠ none) :
    walk p ring (fuel + 1) place loop = { pointer := place, loop := loop, found := .nested } := by
  obtain ⟨l, rfl⟩ := Option.ne_none_iff_exists'.1 inside
  simp [walk, live, kind]

theorem walk_of_end (live : (p.slot place).live = true) (kind : (p.slot place).kind = .loopEnd) :
    walk p ring (fuel + 1) place none
      = walk p ring fuel (if (p.slot place).wrap then ring else place + 1) none := by
  simp [walk, live, kind, afterLoopEnd]

theorem walk_of_pass (live : (p.slot place).live = true) (kind : (p.slot place).kind = .loopEnd) (l : OpenLoop) :
    walk p ring (fuel + 1) place (some l)
      = if l.remaining = 0 then walk p ring fuel (if (p.slot place).wrap then ring else place + 1) none
        else walk p ring fuel l.start (some { l with remaining := l.remaining - 1 }) := by
  simp [walk, live, kind, afterLoopEnd]

end

/-- A ring of live LOOP_ENDs is walked to the limit (R73). -/
theorem walk_found_of_loopEnds {p : Pls} (ends : ∀ i, (p.slot i).live = true ∧ (p.slot i).kind = .loopEnd)
    (ring : Slot) (fuel : Nat) : ∀ place, (walk p ring fuel place none).found = .limit := by
  induction fuel with
  | zero => exact fun place => rfl
  | succ fuel ih =>
    intro place
    rw [walk_of_end fuel (ends place).1 (ends place).2]
    exact ih _

/-! ### What a taking makes of what it finds -/

/-- The walk of a taking from the pointer (R70). -/
def State.walked (s : State) : Walk := walk s.pls s.seq.ringStart 1024 s.seq.pointer s.seq.loop

/-- SEQ once a taking has walked (R70). -/
def Seq.walkedTo (q : Seq) (w : Walk) : Seq :=
  { q with pointer := w.pointer, loop := w.loop, image := none, awaitOpen := false, retest := false }

namespace State
variable {s : State}

theorem takeStep_of_dry (found : s.walked.found = .dry) :
    s.takeStep = (s.setSeq { s.seq.walkedTo s.walked with state := .idle, loop := none }).offerStatus .dry := by
  unfold walked at found
  simp only [takeStep, found]
  rfl

theorem takeStep_of_step {n : StepRecord} (found : s.walked.found = .step n) :
    s.takeStep = (s.setSeq (s.seq.walkedTo s.walked)).arm n := by
  unfold walked at found
  simp only [takeStep, found]
  rfl

theorem takeStep_of_nested (found : s.walked.found = .nested) :
    s.takeStep = (s.setSeq (s.seq.walkedTo s.walked)).fault .nestedLoop := by
  unfold walked at found
  simp only [takeStep, found]
  rfl

theorem takeStep_of_limit (found : s.walked.found = .limit) :
    s.takeStep = s.setSeq { s.seq.walkedTo s.walked with markerLimit := true } := by
  unfold walked at found
  simp only [takeStep, found]
  rfl

theorem onlyChanges_setSeq (s : State) (q : Seq) : s.onlyChanges (s.setSeq q) [.seq] := by
  simp [onlyChanges_iff]

theorem onlyChanges_offerStatus (s : State) (c : StatusCause) : s.onlyChanges (s.offerStatus c) [.lnk] :=
  s.onlyChanges_setLnk _

/-- SEQ takes another state and says so by STATUS. -/
theorem setSeq_offerStatus (s : State) (q : Seq) (c : StatusCause) :
    s.onlyChanges ((s.setSeq q).offerStatus c) [.seq, .lnk]
      ∧ s.lnk.offersNamed ((s.setSeq q).offerStatus c).lnk [.status c q.state] :=
  ⟨((s.onlyChanges_setSeq q).mono (by simp)).trans ((onlyChanges_offerStatus _ c).mono (by simp)),
    (Lnk.offersNamed_nil s.lnk).status (s := s.setSeq q) rfl⟩

/-- A dry end of the plan (R71). -/
theorem takeStep_dry (found : s.walked.found = .dry) :
    s.takeStep.seq = { s.seq.walkedTo s.walked with state := .idle, loop := none }
      ∧ s.lnk.offersNamed s.takeStep.lnk [.status .dry .idle] ∧ s.onlyChanges s.takeStep [.seq, .lnk] := by
  rw [takeStep_of_dry found]
  obtain ⟨frame, offered⟩ := s.setSeq_offerStatus { s.seq.walkedTo s.walked with state := .idle, loop := none } .dry
  exact ⟨offerStatus_seq _ _, offered, frame⟩

/-- A step that waits, or is not joint, is held in ARMED (R70, R75). -/
theorem armed_of_plain {n : StepRecord} (plain : n.joint = none ∨ n.awaited ≠ .none) :
    s.arm n = (s.setSeq { s.seq with state := .armed, image := some n
                                     awaitOpen := decide (n.awaited = .none) }).offerStatus .taken := by
  unfold arm
  cases joint : n.joint with
  | none => rfl
  | some j =>
    have waits : n.awaited ≠ .none := plain.resolve_left (by simp [joint])
    exact if_neg waits

/-- A joint step that waits for nothing enters GATHERING at once (R75, R129). -/
theorem armed_of_joint {n : StepRecord} {j : JointPart} (joint : n.joint = some j) (waits : n.awaited = .none) :
    s.arm n = (s.setSeq { s.seq with state := .armed, image := some n, awaitOpen := true }).enterGathering j := by
  simp [arm, joint, waits]

theorem takeStep_plain {n : StepRecord} (found : s.walked.found = .step n)
    (plain : n.joint = none ∨ n.awaited ≠ .none) :
    s.takeStep.seq = { s.seq.walkedTo s.walked with state := .armed, image := some n
                                                    awaitOpen := decide (n.awaited = .none) }
      ∧ s.lnk.offersNamed s.takeStep.lnk [.status .taken .armed] ∧ s.onlyChanges s.takeStep [.seq, .lnk] := by
  rw [takeStep_of_step found, armed_of_plain plain]
  obtain ⟨frame, offered⟩ := s.setSeq_offerStatus
    { s.seq.walkedTo s.walked with state := .armed, image := some n
                                   awaitOpen := decide (n.awaited = .none) } .taken
  exact ⟨offerStatus_seq _ _, offered, frame⟩

/-! ### The gathering -/

theorem maskedPeer_iff {m : Mask} {p : PeerRecord → Bool} :
    s.maskedPeer m p = true ↔ ∃ n : Station, n ≠ s.own ∧ maskHas m n = true ∧ p (s.ptb.peer n) = true := by
  simp [maskedPeer, mem_stations, and_assoc]

/-- How a gate opens turns on the station's number and the peer records alone. -/
theorem opensGate.congr {s u t : State} {j : JointPart} {name : FrameName} (h : u.opensGate t j name)
    (own : u.own = s.own) (state : ∀ n, (u.ptb.peer n).state = (s.ptb.peer n).state)
    (tripped : ∀ n, (u.ptb.peer n).tripped = (s.ptb.peer n).tripped) : s.opensGate t j name := by
  unfold opensGate at *
  simpa only [own, state, tripped] using h

/-- JNT takes up a joint step (R129). -/
theorem openGate_opens (s : State) (j : JointPart) :
    ∃ name, s.opensGate (s.openGate j) j name ∧ s.lnk.offersNamed (s.openGate j).lnk [name]
      ∧ s.onlyChanges (s.openGate j) [.jnt, .lnk] := by
  have frame : s.onlyChanges (s.openGate j) [.jnt, .lnk] := by simp [onlyChanges_iff]
  by_cases tripped : s.maskedPeer j.mask (·.tripped) = true
  · have opened := maskedPeer_iff.1 tripped
    refine ⟨.withdraw j.tag .peerTrip, ⟨.withdrawing, some .peerTrip, ?_, fun _ => ⟨rfl, rfl, rfl⟩,
      fun none => absurd opened none, fun none => absurd opened none⟩, ?_, frame⟩
    · simp [openGate, tripped]
    · rw [openGate, if_pos tripped]
      exact Lnk.offersNamed_one s.lnk (.frame 15 (.withdraw j.tag .peerTrip))
  have untripped : ¬ ∃ n : Station, n ≠ s.own ∧ maskHas j.mask n = true ∧ (s.ptb.peer n).tripped = true :=
    fun some => tripped (maskedPeer_iff.2 some)
  by_cases lost : s.maskedPeer j.mask (·.state = .lost) = true
  · have gone : ∃ n : Station, n ≠ s.own ∧ maskHas j.mask n = true ∧ (s.ptb.peer n).state = .lost := by
      simpa using maskedPeer_iff.1 lost
    refine ⟨.withdraw j.tag .peerLost, ⟨.withdrawing, some .peerLost, ?_, fun some => absurd some untripped,
      fun _ _ => ⟨rfl, rfl, rfl⟩, fun _ none => absurd gone none⟩, ?_, frame⟩
    · simp [openGate, tripped, lost]
    · rw [openGate, if_neg tripped, if_pos lost]
      exact Lnk.offersNamed_one s.lnk (.frame 15 (.withdraw j.tag .peerLost))
  · have stays : ¬ ∃ n : Station, n ≠ s.own ∧ maskHas j.mask n = true ∧ (s.ptb.peer n).state = .lost :=
      fun some => lost (maskedPeer_iff.2 (by simpa using some))
    refine ⟨.join j.tag j.mask, ⟨.opened, none, ?_, fun some => absurd some untripped,
      fun _ some => absurd some stays, fun _ _ => ⟨rfl, rfl, rfl⟩⟩, ?_, frame⟩
    · simp [openGate, tripped, lost]
    · rw [openGate, if_neg tripped, if_neg lost]
      exact Lnk.offersNamed_one s.lnk (.frame 15 (.join j.tag j.mask))

/-- SEQ enters GATHERING with STATUS TAKEN, and JNT opens its gate (R75, R129). -/
theorem enterGathering_opens (s : State) (j : JointPart) :
    ∃ name, s.opensGate (s.enterGathering j) j name
      ∧ (s.enterGathering j).seq = { s.seq with state := .gathering }
      ∧ s.lnk.offersNamed (s.enterGathering j).lnk [.status .taken .gathering, name]
      ∧ s.onlyChanges (s.enterGathering j) [.seq, .jnt, .lnk] := by
  obtain ⟨told, offered⟩ := s.setSeq_offerStatus { s.seq with state := .gathering } .taken
  obtain ⟨name, opens, joined, frame⟩ :=
    ((s.setSeq { s.seq with state := .gathering }).offerStatus .taken).openGate_opens j
  refine ⟨name, opens.congr ?_ (fun n => ?_) (fun n => ?_), ?_, Lnk.offersNamed_append offered joined,
    (told.mono (by simp)).trans (frame.mono (by simp))⟩
  · simp [own]
  · simp
  · simp
  · rw [enterGathering, openGate_seq, offerStatus_seq, setSeq_seq]

theorem takeStep_joint {n : StepRecord} {j : JointPart} (found : s.walked.found = .step n)
    (joint : n.joint = some j) (waits : n.awaited = .none) :
    ∃ name, s.opensGate s.takeStep j name
      ∧ s.takeStep.seq = { s.seq.walkedTo s.walked with state := .gathering, image := some n, awaitOpen := true }
      ∧ s.lnk.offersNamed s.takeStep.lnk [.status .taken .gathering, name]
      ∧ s.onlyChanges s.takeStep [.seq, .jnt, .lnk] := by
  rw [takeStep_of_step found, armed_of_joint joint waits]
  obtain ⟨u, held⟩ : ∃ u, u = s.setSeq { s.seq.walkedTo s.walked with state := .armed, image := some n
                                                                      awaitOpen := true } := ⟨_, rfl⟩
  obtain ⟨name, opens, seq, offered, frame⟩ := u.enterGathering_opens j
  have held' : ((s.setSeq (s.seq.walkedTo s.walked)).setSeq
      { (s.setSeq (s.seq.walkedTo s.walked)).seq with state := .armed, image := some n, awaitOpen := true }) = u := by
    rw [held]
    rfl
  rw [held']
  refine ⟨name, opens.congr ?_ (fun i => ?_) (fun i => ?_), ?_, ?_, ?_⟩
  · rw [held]; rfl
  · rw [held, setSeq_ptb]
  · rw [held, setSeq_ptb]
  · rw [seq, held]; rfl
  · rw [held, setSeq_lnk] at offered
    rw [held]
    exact offered
  · refine State.onlyChanges.trans ?_ frame
    rw [held]
    exact (s.onlyChanges_setSeq _).mono (by simp)

/-- A fault of a station whose taking has let go of the step: nothing is written back and the pointer stands
(R72, R73, R92). -/
theorem fault_of_no_image {s : State} (image : s.seq.image = none) (faulted : s.seq.state ≠ .faulted)
    (gathering : s.seq.state ≠ .gathering) (c : FaultCause) :
    (s.fault c).seq = { s.seq with state := .faulted, faultCause := c, loop := none, suspendLatch := false
                                   image := none, awaitOpen := false, retest := false, markerLimit := false }
      ∧ s.fallsTo (s.fault c) ∧ s.lnk.offersNamed (s.fault c).lnk [.status .fault .faulted]
      ∧ s.onlyChanges (s.fault c) [.seq, .syn, .ovl, .ctb, .lnk] := by
  have kept := State.dropStep_of_no_image image gathering .aborted .aborted
  have stands := State.StandsFor.refl s (also := []) (by simp)
  have frame := stands.onlyChanges_letGoWith .aborted .aborted .faulted c .fault [] (fun _ => by rw [kept])
    fun _ => by rw [kept]
  rw [State.fault_eq faulted]
  refine ⟨?_, (State.fallsTo_letGo s .aborted .aborted .faulted).congr rfl rfl rfl rfl rfl rfl rfl, ?_,
    frame.mono (by simp)⟩
  · simp [State.letGoWith, State.letGo_seq, kept]
  · exact State.letGoWith_lnk s .aborted .aborted .faulted c .fault (names := [])
      (by rw [kept]; exact Lnk.offersNamed_nil _)

theorem takeStep_nested (found : s.walked.found = .nested) (faulted : s.seq.state ≠ .faulted)
    (gathering : s.seq.state ≠ .gathering) :
    (s.takeStep.seq.state = .faulted ∧ s.takeStep.seq.faultCause = .nestedLoop ∧ s.takeStep.seq.image = none
        ∧ s.takeStep.seq.pointer = s.walked.pointer ∧ s.takeStep.seq.loop = none)
      ∧ s.fallsTo s.takeStep ∧ s.lnk.offersNamed s.takeStep.lnk [.status .fault .faulted]
      ∧ s.onlyChanges s.takeStep [.seq, .syn, .ovl, .ctb, .lnk] := by
  rw [takeStep_of_nested found]
  obtain ⟨seq, falls, offered, frame⟩ := fault_of_no_image (s := s.setSeq (s.seq.walkedTo s.walked)) rfl faulted
    gathering .nestedLoop
  refine ⟨by rw [seq]; exact ⟨rfl, rfl, rfl, rfl, rfl⟩, falls.congr rfl rfl rfl rfl rfl rfl rfl, offered, ?_⟩
  exact ((s.onlyChanges_setSeq _).mono (by simp)).trans frame

end State
end Sys2Proof.Machine
end

section
/-! PROOFS. The end of a step by its duration, and the walk of a taking: O28, O29, O30, O31. -/

namespace Sys2Proof.Machine

/-- Settles O30, by the two cases of the slot's outcome part. -/
theorem writeBackMergesThePass : Obligations.WriteBackMergesThePass := by
  unfold Obligations.WriteBackMergesThePass
  intro p i j live reason pass
  refine ⟨Pls.slot_setSlot_ne p _, Pls.setSlot_profiles p i _, ?_, ?_⟩
  · rw [Pls.slot_setSlot_same]
    rfl
  rw [Pls.slot_setSlot_same]
  cases old : (p.slot i).outcome with
  | none =>
    refine ⟨mergeOutcome none reason pass, by simp [old], rfl, fun _ => ?_, fun o' some => absurd some (by simp)⟩
    simp [mergeOutcome, satAdd]
  | some o =>
    refine ⟨mergeOutcome (some o) reason pass, by simp [old], rfl, fun none => absurd none (by simp), ?_⟩
    rintro o' ⟨rfl⟩
    refine ⟨rfl, rfl, rfl, rfl, fun none => ?_, fun none => ?_, fun a b old new => ?_⟩
    · rw [mergeOutcome, none]
      cases o.lrms <;> rfl
    · rw [mergeOutcome, none]
      cases pass.lrms <;> rfl
    · rw [mergeOutcome, old, new]
      rfl

namespace State
variable {s : State}

/-! ### What a taking finds at the pointer -/

theorem walked_of_dead (dead : (s.pls.slot s.seq.pointer).live = false) :
    s.walked = { pointer := s.seq.pointer, loop := s.seq.loop, found := .dry } := walk_of_dead 1023 dead

theorem walked_of_normal (live : (s.pls.slot s.seq.pointer).live = true)
    (kind : (s.pls.slot s.seq.pointer).kind = .normal) :
    s.walked = { pointer := s.seq.pointer, loop := s.seq.loop, found := .step (s.pls.slot s.seq.pointer) } :=
  walk_of_normal 1023 live kind

theorem walked_of_nested (live : (s.pls.slot s.seq.pointer).live = true)
    (kind : (s.pls.slot s.seq.pointer).kind = .loopBegin) (inside : s.seq.loop ≠ none) :
    s.walked = { pointer := s.seq.pointer, loop := s.seq.loop, found := .nested } :=
  walk_of_nested 1023 live kind inside

/-! ### The write-back at the end of a step -/

/-- The station once a step that its duration ends is written back and STATUS ENDED offered (R79). -/
def ended (s : State) (r : StepRecord) : State :=
  (s.writeBack r .completed s.liveAfterPass s.passMeasures).offerStatus .ended

theorem endStep_of_hold {r : StepRecord} (hold : r.holdAfter = true) :
    s.endStep r = ((s.ended r).setSeq { (s.ended r).seq with state := .held }).offerStatus .hold := if_pos hold

theorem endStep_of_no_hold {r : StepRecord} (hold : r.holdAfter = false) : s.endStep r = (s.ended r).moveOn r :=
  if_neg (by simp [hold])

theorem moveOn_of_latch {r : StepRecord} (latch : s.seq.suspendLatch = true) :
    s.moveOn r = (s.setSeq { s.seq with state := .suspended, suspendLatch := false, image := none
                                        pointer := s.seq.nextSlot r }).offerStatus .suspend := if_pos latch

theorem moveOn_of_no_latch {r : StepRecord} (latch : s.seq.suspendLatch = false) :
    s.moveOn r = (s.pointToNext r).takeStep := if_neg (by simp [latch])

section
variable (r : StepRecord)

@[simp] theorem ended_pls : (s.ended r).pls = s.pls.setSlot s.seq.pointer
    ((s.pls.slot s.seq.pointer).written s.liveAfterPass .completed s.passMeasures) := by
  simp [ended]

@[simp] theorem ended_seq : (s.ended r).seq = s.seq := by simp [ended]

theorem onlyChanges_ended : s.onlyChanges (s.ended r) [.pls, .lnk] := by
  simp [onlyChanges_iff, ended]

theorem ended_offers (active : s.seq.state = .active) : s.lnk.offersNamed (s.ended r).lnk
    ((if r.notify then [.result s.seq.pointer s.liveAfterPass .completed] else []) ++ [.status .ended .active]) :=
  Lnk.offersNamed.status (s := s.writeBack r .completed s.liveAfterPass s.passMeasures)
    (s.writeBack_offers r .completed s.liveAfterPass s.passMeasures) (by simpa using active)

end

/-- STEP_DURATION_END, when the duration has run out (R78, R79). -/
theorem exec_stepDurationEnd_of_ended {r : StepRecord} (run : s.running = true) (active : s.seq.state = .active)
    (image : s.seq.image = some r) (lasts : r.duration = none ∨ r.duration = some 0
      ∨ ∃ n, r.duration = some n ∧ n.toNat ≤ s.seq.progress) :
    exec .stepDurationEnd s = .next (s.endStep r) := by
  have due : r.count ≤ s.seq.progress := by
    obtain none | zero | ⟨n, some, reached⟩ := lasts
    · simp [StepRecord.count, none]
    · simp [StepRecord.count, zero]
    · simpa [StepRecord.count, some] using reached
  rw [exec_stepDurationEnd, carrying_of_running run, carryStepEnd,
    endingStep_eq_some_iff.2 ⟨image, active, due⟩]

end State

/-- Settles O28: the write-back, and the two rests after it. -/
theorem stepEndHoldsOrSuspends : Obligations.StepEndHoldsOrSuspends := by
  unfold Obligations.StepEndHoldsOrSuspends
  intro s r run active image lasts
  have runs := State.exec_stepDurationEnd_of_ended run active image lasts
  have offers := State.ended_offers r active
  have frame := (State.onlyChanges_ended (s := s) r).mono (b := [.pls, .seq, .lnk]) (by simp)
  refine ⟨fun hold => ?_, fun hold latch => ?_⟩
  · rw [State.endStep_of_hold hold] at runs
    obtain ⟨told, held⟩ := (s.ended r).setSeq_offerStatus { (s.ended r).seq with state := .held } .hold
    refine ⟨_, runs, ?_, ?_, Lnk.offersNamed_append offers held, frame.trans (told.mono (by simp))⟩
    · rw [State.offerStatus_pls, State.setSeq_pls, State.ended_pls]
      rfl
    · rw [State.offerStatus_seq, State.setSeq_seq, State.ended_seq]
  · rw [State.endStep_of_no_hold hold, State.moveOn_of_latch (by rwa [State.ended_seq])] at runs
    obtain ⟨told, suspended⟩ := (s.ended r).setSeq_offerStatus
      { (s.ended r).seq with state := .suspended, suspendLatch := false, image := none
                             pointer := (s.ended r).seq.nextSlot r } .suspend
    refine ⟨_, runs, ?_, ?_, Lnk.offersNamed_append offers suspended, frame.trans (told.mono (by simp))⟩
    · rw [State.offerStatus_pls, State.setSeq_pls, State.ended_pls]
      rfl
    · rw [State.offerStatus_seq, State.setSeq_seq, State.ended_seq]
      rfl

/-! ### O29 -/

/-- The next slot of a step that has ended (R79 step 5). -/
def State.endedOn (s : State) (r : StepRecord) : State := (s.ended r).pointToNext r

namespace State
variable {s : State} {r : StepRecord}

@[simp] theorem endedOn_pls : (s.endedOn r).pls = (s.ended r).pls := rfl

@[simp] theorem endedOn_seq : (s.endedOn r).seq = { s.seq with pointer := s.seq.nextSlot r } := by
  rw [endedOn, pointToNext, setSeq_seq, ended_seq]

@[simp] theorem endedOn_lnk : (s.endedOn r).lnk = (s.ended r).lnk := rfl

theorem onlyChanges_endedOn : s.onlyChanges (s.endedOn r) [.pls, .seq, .lnk] :=
  ((onlyChanges_ended (s := s) r).mono (by simp)).trans ((onlyChanges_setSeq _ _).mono (by simp))

theorem endStep_taking (hold : r.holdAfter = false) (latch : s.seq.suspendLatch = false) :
    s.endStep r = (s.endedOn r).takeStep := by
  rw [endStep_of_no_hold hold, moveOn_of_no_latch (by rwa [ended_seq])]
  rfl

end State

/-- Settles O29: the taking after the write-back, by what stands in the next slot. -/
theorem stepEndTakesTheNextStep : Obligations.StepEndTakesTheNextStep := by
  unfold Obligations.StepEndTakesTheNextStep
  intro s r n next run active image lasts hold latch live written ended at_ stands
  have runs := State.exec_stepDurationEnd_of_ended run active image lasts
  rw [State.endStep_taking hold latch] at runs
  have offers := State.ended_offers r active
  have frame := State.onlyChanges_endedOn (s := s) (r := r)
  obtain ⟨u, on⟩ : ∃ u, u = s.endedOn r := ⟨_, rfl⟩
  have pointer : u.seq.pointer = next := by rw [on, State.endedOn_seq, at_]; rfl
  have slot : u.pls.slot u.seq.pointer = n := by
    rw [pointer, on, State.endedOn_pls, State.ended_pls]
    exact stands
  have plan : u.pls = written := by
    rw [on, State.endedOn_pls, State.ended_pls]
    rfl
  have loop : u.seq.loop = s.seq.loop := by rw [on, State.endedOn_seq]
  have state : u.seq.state = .active := by rw [on, State.endedOn_seq]; exact active
  have told : s.lnk.offersNamed u.lnk ended := by
    rw [on]
    exact offers
  rw [← on] at runs frame
  clear on
  have kept : u.takeStep.pls = written := u.takeStep_pls.trans plan
  refine ⟨fun alive kind plain => ?_, fun j alive kind joint waits => ?_, fun dead => ?_, fun alive kind inside => ?_⟩
  · have walked := State.walked_of_normal (s := u) (by rwa [slot]) (by rwa [slot])
    obtain ⟨seq, taken, moved⟩ := State.takeStep_plain (s := u) (n := n) (by rw [walked, slot]) plain
    refine ⟨_, runs, kept, ?_, ?_, ?_, ?_, ?_, Lnk.offersNamed_append told taken, frame.trans (moved.mono (by simp))⟩
    all_goals rw [seq, walked]
    · exact pointer
    · exact loop
    · exact decide_eq_true_iff
  · have walked := State.walked_of_normal (s := u) (by rwa [slot]) (by rwa [slot])
    obtain ⟨name, opens, seq, taken, moved⟩ :=
      State.takeStep_joint (s := u) (n := n) (by rw [walked, slot]) joint waits
    have blocks := State.onlyChanges_iff.1 frame
    obtain ⟨stc, -, -, -, -, -, -, -, ptb, -⟩ := blocks
    have peers : u.ptb = s.ptb := ptb (by simp)
    refine ⟨_, name, runs, kept, ?_, ?_, ?_, ?_, opens.congr ?_ (fun i => by rw [peers]) (fun i => by rw [peers]),
      Lnk.offersNamed_append told taken, (frame.mono (by simp)).trans (moved.mono (by simp))⟩
    · rw [seq]
    · rw [seq]
    · rw [seq, walked]; exact pointer
    · rw [seq, walked]; exact loop
    · rw [State.own, State.own, stc (by simp)]
  · have walked := State.walked_of_dead (s := u) (by rwa [slot])
    obtain ⟨seq, dry, moved⟩ := State.takeStep_dry (s := u) (by rw [walked])
    refine ⟨_, runs, kept, ?_, ?_, ?_, ?_, Lnk.offersNamed_append told dry, frame.trans (moved.mono (by simp))⟩
    all_goals rw [seq]
    · rfl
    · rw [walked]; exact pointer
  · have walked := State.walked_of_nested (s := u) (by rwa [slot]) (by rwa [slot]) (by rwa [loop])
    obtain ⟨⟨faulted, cause, none, place, closed⟩, falls, fault, moved⟩ :=
      State.takeStep_nested (s := u) (by rw [walked]) (by simp [state]) (by simp [state])
    have blocks := State.onlyChanges_iff.1 frame
    obtain ⟨stc, ctb, syn, ovl, -⟩ := blocks
    refine ⟨_, runs, kept, faulted, cause, none, ?_, closed,
      falls.congr (syn (by simp)).symm (ovl (by simp)).symm (ctb (by simp)).symm (stc (by simp)).symm rfl rfl rfl,
      Lnk.offersNamed_append told fault, (frame.mono (by simp)).trans (moved.mono (by simp))⟩
    rw [place, walked]
    exact pointer

end Sys2Proof.Machine
end

section
/-! PROOFS. The requests that move SEQ: RELEASE, SUSPEND, RUN and CLEAR (O31, O49, O51, O53). -/

namespace Sys2Proof.Machine

/-! ### RELEASE -/

/-- A held step is released: the answer, STATUS RELEASE, and the pointer at the next slot (R84). -/
def State.releasedOn (s : State) (req : Requester) (r : StepRecord) : State :=
  ((s.frameEnd.answer req .release 0 .ok).offerStatus .release).pointToNext r

namespace State
variable {s : State} {r : StepRecord}

theorem exec_release_of_held (hears : s.hearing) (req : Requester) (held : s.seq.state = .held)
    (image : s.seq.image = some r) : exec (.release req) s
      = .next (((s.frameEnd.answer req .release 0 .ok).offerStatus .release).moveOn r) := by
  obtain ⟨-, -, -, -, -, seq, -⟩ := (s.standsFor_answer req .release 0 .ok).blocks
  have code : (if s.frameEnd.seq.state = .held then AnswerCode.ok else .notHeld) = .ok := if_pos held
  rw [exec_release, requested_of_hearing hears, code, release, seq, held, image]

theorem exec_release_taking (hears : s.hearing) (req : Requester) (held : s.seq.state = .held)
    (image : s.seq.image = some r) (latch : s.seq.suspendLatch = false) :
    exec (.release req) s = .next (s.releasedOn req r).takeStep := by
  obtain ⟨-, -, -, -, -, seq, -⟩ := (s.standsFor_answer req .release 0 .ok).blocks
  rw [exec_release_of_held hears req held image, moveOn_of_no_latch (by rwa [offerStatus_seq, seq])]
  rfl

theorem answered_release_offers (req : Requester) (held : s.seq.state = .held) :
    s.lnk.frameEnded.offersNamed ((s.frameEnd.answer req .release 0 .ok).offerStatus .release).lnk
      (answerNames req .release 0 .ok ++ [.status .release .held]) := by
  have stands := s.standsFor_answer req .release 0 .ok
  obtain ⟨-, -, -, -, -, seq, -⟩ := stands.blocks
  exact stands.offered.status (by rwa [seq])

theorem onlyChanges_answer (s : State) (req : Requester) (kind : RequestKind) (first : Byte) (code : AnswerCode) :
    s.onlyChanges (s.frameEnd.answer req kind first code) [.lnk] := (s.standsFor_answer req kind first code).frame

theorem onlyChanges_releasedOn (req : Requester) : s.onlyChanges (s.releasedOn req r) [.seq, .lnk] :=
  ((s.onlyChanges_answer req .release 0 .ok).mono (by simp)).trans
    (((onlyChanges_offerStatus _ _).mono (by simp)).trans ((onlyChanges_setSeq _ _).mono (by simp)))

theorem releasedOn_seq (req : Requester) :
    (s.releasedOn req r).seq = { s.seq with pointer := s.seq.nextSlot r } := by
  obtain ⟨-, -, -, -, -, seq, -⟩ := (s.standsFor_answer req .release 0 .ok).blocks
  rw [releasedOn, pointToNext, setSeq_seq, offerStatus_seq, seq]

/-- The frame of a change, read at the blocks a taking uses. -/
theorem onlyChanges.taking {t : State} (h : s.onlyChanges t [.seq, .lnk]) :
    t.stc = s.stc ∧ t.ctb = s.ctb ∧ t.syn = s.syn ∧ t.ovl = s.ovl ∧ t.pls = s.pls ∧ t.ptb = s.ptb := by
  obtain ⟨stc, ctb, syn, ovl, pls, -, -, -, ptb, -⟩ := onlyChanges_iff.1 h
  exact ⟨stc (by simp), ctb (by simp), syn (by simp), ovl (by simp), pls (by simp), ptb (by simp)⟩

end State

/-! ### MARKER_LIMIT -/

namespace State
variable {s : State}

theorem carryMarkerLimit_of_limit (limit : s.seq.markerLimit = true) :
    s.carryMarkerLimit = (s.setSeq { s.seq with markerLimit := false }).fault .markerLimit := if_pos limit

/-- MARKER_LIMIT of a station whose taking has let go of the step (R73, R92). -/
theorem carryMarkerLimit_faults (limit : s.seq.markerLimit = true) (image : s.seq.image = none)
    (faulted : s.seq.state ≠ .faulted) (gathering : s.seq.state ≠ .gathering) :
    s.carryMarkerLimit.seq = { s.seq with state := .faulted, faultCause := .markerLimit, loop := none
                                          suspendLatch := false, image := none, awaitOpen := false
                                          retest := false, markerLimit := false }
      ∧ s.fallsTo s.carryMarkerLimit ∧ s.lnk.offersNamed s.carryMarkerLimit.lnk [.status .fault .faulted]
      ∧ s.onlyChanges s.carryMarkerLimit [.seq, .syn, .ovl, .ctb, .lnk] := by
  rw [carryMarkerLimit_of_limit limit]
  obtain ⟨seq, falls, offered, frame⟩ :=
    fault_of_no_image (s := s.setSeq { s.seq with markerLimit := false }) image faulted gathering .markerLimit
  exact ⟨seq, falls.congr rfl rfl rfl rfl rfl rfl rfl, offered,
    ((s.onlyChanges_setSeq _).mono (by simp)).trans frame⟩

theorem due_of_markerLimit (limit : s.seq.markerLimit = true) : s.due = true := by
  simp [due, limit]

end State

/-- Settles O31: the walk marker by marker, a RELEASE by what its walk finds, and the fault at the limit. -/
theorem loopMarkersAndTheirLimit : Obligations.LoopMarkersAndTheirLimit := by
  unfold Obligations.LoopMarkersAndTheirLimit
  refine ⟨fun p ring place fuel loop => ⟨rfl, walk_of_dead fuel, walk_of_normal fuel, ?_, walk_of_nested fuel, ?_, ?_⟩,
    fun p ring place ends => walk_found_of_loopEnds ends ring 1024 place,
    fun s req r hears held image latch => ?_, fun s run => ⟨fun none => ?_, fun limit image faulted gathering => ?_⟩⟩
  · rintro live kind rfl
    exact walk_of_begin fuel live kind
  · rintro live kind rfl
    exact walk_of_end fuel live kind
  · rintro l rfl live kind
    exact walk_of_pass fuel live kind l
  · have runs := State.exec_release_taking hears req held image latch
    have told : s.lnk.frameEnded.offersNamed (s.releasedOn req r).lnk _ := State.answered_release_offers req held
    have frame := State.onlyChanges_releasedOn (s := s) (r := r) req
    have seq := State.releasedOn_seq (s := s) (r := r) req
    obtain ⟨u, on⟩ : ∃ u, u = s.releasedOn req r := ⟨_, rfl⟩
    rw [← on] at runs told frame seq
    clear on
    obtain ⟨stc, ctb, syn, ovl, pls, ptb⟩ := frame.taking
    intro w names
    have walked : u.walked = w := by
      rw [State.walked, pls, seq]
      rfl
    clear_value w
    have state : u.seq.state = .held := by rw [seq]; exact held
    cases found : w.found with
    | dry =>
      obtain ⟨rested, dry, -⟩ := State.takeStep_dry (s := u) (by rw [walked]; exact found)
      refine ⟨_, runs, by rw [rested, walked]; rfl, fun _ => ⟨by rw [rested], by rw [rested]; rfl, by rw [rested],
        Lnk.offersNamed_append told dry⟩, fun _ other => WalkFound.noConfusion other, fun other => WalkFound.noConfusion other,
        fun other => WalkFound.noConfusion other⟩
    | step n =>
      have step : u.walked.found = .step n := by rw [walked]; exact found
      by_cases plain : n.joint = none ∨ n.awaited ≠ .none
      · obtain ⟨armed, taken, -⟩ := State.takeStep_plain step plain
        refine ⟨_, runs, by rw [armed, walked]; rfl, fun other => WalkFound.noConfusion other, ?_, fun other => WalkFound.noConfusion other,
          fun other => WalkFound.noConfusion other⟩
        rintro m ⟨rfl⟩
        refine ⟨by rw [armed], by rw [armed, walked]; rfl,
          fun _ => ⟨by rw [armed], Lnk.offersNamed_append told taken⟩, fun j joint waits => ?_⟩
        exact absurd plain (by simp [joint, waits])
      · obtain ⟨joins, waits⟩ := not_or.1 plain
        obtain ⟨j, joint⟩ := Option.ne_none_iff_exists'.1 joins
        obtain ⟨name, opens, gathers, taken, -⟩ := State.takeStep_joint step joint (not_not.1 waits)
        refine ⟨_, runs, by rw [gathers, walked]; rfl, fun other => WalkFound.noConfusion other, ?_, fun other => WalkFound.noConfusion other,
          fun other => WalkFound.noConfusion other⟩
        rintro m ⟨rfl⟩
        refine ⟨by rw [gathers], by rw [gathers, walked]; rfl, fun other => absurd other plain,
          fun j' joint' _ => ⟨by rw [gathers], name, ?_, Lnk.offersNamed_append told taken⟩⟩
        obtain rfl : j = j' := Option.some.inj (joint.symm.trans joint')
        exact opens.congr (by rw [State.own, State.own, stc]) (fun i => by rw [ptb]) fun i => by rw [ptb]
    | nested =>
      obtain ⟨⟨faulted, cause, none, place, closed⟩, falls, fault, -⟩ :=
        State.takeStep_nested (s := u) (by rw [walked]; exact found) (by simp [state]) (by simp [state])
      refine ⟨_, runs, by rw [place, walked], fun other => WalkFound.noConfusion other, fun _ other => WalkFound.noConfusion other,
        fun _ => ⟨faulted, cause, none, closed, falls.congr syn.symm ovl.symm ctb.symm stc.symm rfl rfl rfl,
          Lnk.offersNamed_append told fault⟩, fun other => WalkFound.noConfusion other⟩
    | limit =>
      have taken := State.takeStep_of_limit (s := u) (by rw [walked]; exact found)
      obtain ⟨t, made⟩ : ∃ t, t = u.setSeq { u.seq.walkedTo u.walked with markerLimit := true } := ⟨_, rfl⟩
      rw [taken, ← made] at runs
      have rested : t.seq = { u.seq.walkedTo u.walked with markerLimit := true } := by rw [made, State.setSeq_seq]
      have hearing : s.running = true := hears.1.1
      have run : t.running = true := by rw [State.running, made, State.setSeq_stc, stc]; exact hearing
      obtain ⟨faults, falls, fault, moved⟩ := t.carryMarkerLimit_faults (by rw [rested]) (by rw [rested]; rfl)
        (by rw [rested]; exact fun other => absurd (state.symm.trans other) (by simp))
        (by rw [rested]; exact fun other => absurd (state.symm.trans other) (by simp))
      obtain ⟨-, -, -, -, plan, -⟩ := State.onlyChanges_iff.1 moved
      refine ⟨t, runs, by rw [rested, walked]; rfl, fun other => WalkFound.noConfusion other, fun _ other => WalkFound.noConfusion other,
        fun other => WalkFound.noConfusion other, fun _ => ⟨by rw [made]; exact told, State.due_of_markerLimit (by rw [rested]),
          t.carryMarkerLimit, by rw [exec_markerLimit, State.carrying_of_running run], by rw [faults], by rw [faults],
          by rw [faults, rested, walked]; rfl, by rw [faults],
          falls.congr ?_ ?_ ?_ ?_ rfl rfl rfl, (plan (by simp)).trans ?_, fault⟩⟩
      all_goals simp [made, stc, ctb, syn, ovl, pls]
  · rw [exec_markerLimit, State.carrying_of_running run, State.carryMarkerLimit_of_none none]
  · obtain ⟨faults, falls, fault, moved⟩ := s.carryMarkerLimit_faults limit image faulted gathering
    refine ⟨_, by rw [exec_markerLimit, State.carrying_of_running run], ?_, ?_, ?_, ?_, ?_, ?_, ?_, falls, fault, moved⟩
    all_goals rw [faults]

end Sys2Proof.Machine
end

section
/-! PROOFS. SUSPEND, RELEASE, RUN and CLEAR by state: O51, O49, O53. -/

namespace Sys2Proof.Machine

/-! ### SUSPEND -/

namespace State
variable {s : State}

theorem suspend_of_inEffect (state : s.seq.state = .active ∨ s.seq.state = .frozen) :
    s.suspend = s.setSeq { s.seq with suspendLatch := true } := by
  obtain active | frozen := state
  · simp [suspend, active]
  · simp [suspend, frozen]

theorem suspend_of_armed (state : s.seq.state = .armed) : s.suspend = s.suspendNow := by simp [suspend, state]

theorem suspend_of_held {r : StepRecord} (state : s.seq.state = .held) (image : s.seq.image = some r) :
    s.suspend = (s.pointToNext r).suspendNow := by simp [suspend, state, image]

theorem suspend_of_held_of_no_image (state : s.seq.state = .held) (image : s.seq.image = none) :
    s.suspend = s.suspendNow := by simp [suspend, state, image]

theorem suspend_of_rest (state : s.seq.state = .gathering ∨ s.seq.state = .idle ∨ s.seq.state = .suspended
    ∨ s.seq.state = .tripped ∨ s.seq.state = .faulted) : s.suspend = s := by
  obtain q | q | q | q | q := state <;> simp [suspend, q]

theorem suspendNow_offers (s : State) :
    s.onlyChanges s.suspendNow [.seq, .lnk] ∧ s.lnk.offersNamed s.suspendNow.lnk [.status .suspend .suspended] :=
  s.setSeq_offerStatus { s.seq with state := .suspended, image := none, suspendLatch := false } .suspend

theorem suspendNow_seq (s : State) :
    s.suspendNow.seq = { s.seq with state := .suspended, image := none, suspendLatch := false } :=
  offerStatus_seq _ _

theorem exec_suspend_of_hearing (hears : s.hearing) (req : Requester) :
    exec (.suspend req) s = .next (s.frameEnd.answer req .suspend 0 (suspendAnswer s.seq.state)).suspend := by
  rw [exec_suspend, requested_of_hearing hears]
  rfl

theorem exec_release_of_not_held (hears : s.hearing) (req : Requester) (state : s.seq.state ≠ .held) :
    exec (.release req) s = .next (s.frameEnd.answer req .release 0 .notHeld) := by
  obtain ⟨-, -, -, -, -, seq, -⟩ := (s.standsFor_answer req .release 0 .notHeld).blocks
  have code : (if s.frameEnd.seq.state = .held then AnswerCode.ok else .notHeld) = .notHeld := if_neg state
  have stays : (s.frameEnd.answer req .release 0 .notHeld).release = s.frameEnd.answer req .release 0 .notHeld := by
    unfold release
    split
    next held _ => exact absurd (seq ▸ held) state
    next => rfl
  rw [exec_release, requested_of_hearing hears, code, stays]

end State

/-- Settles O51, state by state. -/
theorem suspendAndReleaseByState : Obligations.SuspendAndReleaseByState := by
  unfold Obligations.SuspendAndReleaseByState
  refine ⟨fun s req hears => ?_, fun s req hears => ⟨fun state => ?_, fun r n next held image at_ slot plain => ?_⟩⟩
  · have runs := State.exec_suspend_of_hearing hears req
    obtain ⟨code, coded⟩ : ∃ code, code = suspendAnswer s.seq.state := ⟨_, rfl⟩
    have stands := s.standsFor_answer req .suspend 0 code
    obtain ⟨-, -, -, -, -, seq, -⟩ := stands.blocks
    have frame := (s.onlyChanges_answer req .suspend 0 code).mono (b := [.seq, .lnk]) (by simp)
    have told := stands.offered
    rw [← coded] at runs
    obtain ⟨u, answered⟩ : ∃ u, u = s.frameEnd.answer req .suspend 0 code := ⟨_, rfl⟩
    rw [← answered] at runs frame told seq
    clear answered stands
    rw [← seq] at coded ⊢
    have now := u.suspendNow_offers
    cases state : u.seq.state
    case active =>
      rw [State.suspend_of_inEffect (.inl state)] at runs
      refine ⟨_, code, [], runs, frame.trans ((u.onlyChanges_setSeq _).mono (by simp)), by simpa using told, ?_⟩
      simp [coded, state, suspendAnswer]
    case frozen =>
      rw [State.suspend_of_inEffect (.inr state)] at runs
      refine ⟨_, code, [], runs, frame.trans ((u.onlyChanges_setSeq _).mono (by simp)), by simpa using told, ?_⟩
      simp [coded, state, suspendAnswer]
    case armed =>
      rw [State.suspend_of_armed state] at runs
      refine ⟨_, code, _, runs, frame.trans now.1, Lnk.offersNamed_append told now.2, ?_⟩
      simp [coded, state, suspendAnswer, State.suspendNow_seq]
    case held =>
      cases image : u.seq.image with
      | none =>
        rw [State.suspend_of_held_of_no_image state image] at runs
        refine ⟨_, code, _, runs, frame.trans now.1, Lnk.offersNamed_append told now.2, ?_⟩
        simp
      | some r =>
        rw [State.suspend_of_held state image] at runs
        obtain ⟨moved, offered⟩ := (u.pointToNext r).suspendNow_offers
        refine ⟨_, code, _, runs, frame.trans (((u.onlyChanges_setSeq _).mono (by simp)).trans moved),
          Lnk.offersNamed_append told offered, ?_⟩
        simp [coded, state, suspendAnswer, State.suspendNow_seq, State.pointToNext, Seq.nextSlot]
    all_goals
      rw [State.suspend_of_rest (by simp [state])] at runs
      refine ⟨_, code, [], runs, frame, by simpa using told, ?_⟩
      simp [coded, state, suspendAnswer]
  · exact ⟨_, State.exec_release_of_not_held hears req state, s.answer_frameEnd req .release 0 .notHeld⟩
  · cases latch : s.seq.suspendLatch
    case true =>
      have runs := State.exec_release_of_held hears req held image
      have stands := s.standsFor_answer req .release 0 .ok
      obtain ⟨-, -, -, -, -, seq, -⟩ := stands.blocks
      have told := State.answered_release_offers req held
      obtain ⟨u, answered⟩ : ∃ u, u = (s.frameEnd.answer req .release 0 .ok).offerStatus .release := ⟨_, rfl⟩
      have same : u.seq = s.seq := by rw [answered, State.offerStatus_seq, seq]
      have frame : s.onlyChanges u [.seq, .lnk] := by
        rw [answered]
        exact ((s.onlyChanges_answer req .release 0 .ok).mono (by simp)).trans
          ((State.onlyChanges_offerStatus _ _).mono (by simp))
      rw [← answered] at runs told
      rw [State.moveOn_of_latch (by rwa [same])] at runs
      obtain ⟨moved, offered⟩ := u.setSeq_offerStatus
        { u.seq with state := .suspended, suspendLatch := false, image := none, pointer := u.seq.nextSlot r } .suspend
      refine ⟨_, .status .suspend .suspended, runs, frame.trans moved, ?_, ?_, ?_⟩
      · rw [State.offerStatus_seq, State.setSeq_seq, at_, same]
        rfl
      · simpa using Lnk.offersNamed_append told offered
      · simp [same]
    case false =>
      have runs := State.exec_release_taking hears req held image latch
      have told : s.lnk.frameEnded.offersNamed (s.releasedOn req r).lnk _ := State.answered_release_offers req held
      have frame := State.onlyChanges_releasedOn (s := s) (r := r) req
      have seq := State.releasedOn_seq (s := s) (r := r) req
      obtain ⟨u, on⟩ : ∃ u, u = s.releasedOn req r := ⟨_, rfl⟩
      rw [← on] at runs told frame seq
      clear on
      obtain ⟨-, -, -, -, pls, -⟩ := frame.taking
      have pointer : u.seq.pointer = next := by rw [seq, at_]; rfl
      have loop : u.seq.loop = s.seq.loop := by rw [seq]
      have found : u.pls.slot u.seq.pointer = n := by rw [pls, pointer, slot]
      cases live : n.live
      case false =>
        have walked := State.walked_of_dead (s := u) (by rwa [found])
        obtain ⟨rested, dry, moved⟩ := State.takeStep_dry (s := u) (by rw [walked])
        refine ⟨_, .status .dry .idle, runs, frame.trans moved, by rw [rested, walked]; exact pointer, ?_, ?_⟩
        · simpa using Lnk.offersNamed_append told dry
        · simp [rested, Seq.walkedTo]
      case true =>
        obtain ⟨kind, waits, joint⟩ := plain.resolve_left (by simp [live])
        have walked := State.walked_of_normal (s := u) (by rwa [found]) (by rwa [found])
        obtain ⟨armed, taken, moved⟩ :=
          State.takeStep_plain (s := u) (n := n) (by rw [walked, found]) (.inl joint)
        refine ⟨_, .status .taken .armed, runs, frame.trans moved, by rw [armed, walked]; exact pointer, ?_, ?_⟩
        · simpa using Lnk.offersNamed_append told taken
        · simp [armed, Seq.walkedTo, walked, loop]

/-! ### RUN -/

namespace State
variable {s : State}

/-- A RUN is BUSY while SEQ holds a slot (R85). -/
theorem runAnswer_of_holding (holds : holdsSlot s.seq.state = true) : s.runAnswer = .busy := if_pos holds

/-- A RUN that is neither BUSY nor accepted is REFUSED (R85). -/
theorem runAnswer_of_refused (free : holdsSlot s.seq.state = false) (turned : s.runAnswer ≠ .ok) :
    s.runAnswer = .refused := by
  unfold runAnswer at turned ⊢
  split_ifs at turned ⊢ with holds stopped bad
  · exact absurd holds (by simp [free])
  · rfl
  · rfl
  · exact absurd rfl turned

theorem exec_run_of_hearing (hears : s.hearing) (req : Requester) (start : Option Slot) :
    exec (.run req start) s = .next
      (if s.runAnswer = .ok then (s.frameEnd.answer req .run (runFirst start) s.runAnswer).startRun start
       else s.frameEnd.answer req .run (runFirst start) s.runAnswer) := by
  rw [exec_run, requested_of_hearing hears]
  rfl

theorem exec_run_of_turned (hears : s.hearing) (req : Requester) (start : Option Slot) {code : AnswerCode}
    (answer : s.runAnswer = code) (turned : code ≠ .ok) :
    exec (.run req start) s = .next (s.frameEnd.answer req .run (start.getD 0) code) := by
  have first : runFirst start = start.getD 0 := by cases start <;> rfl
  rw [exec_run_of_hearing hears, answer, if_neg turned, first]

/-- The station that an accepted RUN takes a step from: pointer, output and latch as R85 sets them. -/
def runOn (s : State) (start : Option Slot) : State :=
  ((((s.setSeq (s.seq.runFrom start)).setSyn s.syn.energize).setStc { s.stc with energized := true })).offerStatus .run

theorem exec_run_of_accepted (hears : s.hearing) (req : Requester) (start : Option Slot)
    (answer : s.runAnswer = .ok) :
    exec (.run req start) s = .next ((s.frameEnd.answer req .run (start.getD 0) .ok).runOn start).takeStep := by
  have first : runFirst start = start.getD 0 := by cases start <;> rfl
  rw [exec_run_of_hearing hears, answer, if_pos rfl, first]
  rfl

end State

@[simp] theorem Seq.runFrom_state (q : Seq) (start : Option Slot) : (q.runFrom start).state = q.state := by
  cases start <;> rfl

theorem Seq.runFrom_pointer (q : Seq) (start : Option Slot) : (q.runFrom start).pointer = start.getD q.pointer := by
  cases start <;> rfl

theorem Seq.runFrom_ringStart (q : Seq) (start : Option Slot) :
    (q.runFrom start).ringStart = start.getD q.ringStart := by
  cases start <;> rfl

theorem Seq.runFrom_loop (q : Seq) (start : Option Slot) :
    (start = none → (q.runFrom start).loop = q.loop) ∧ (start ≠ none → (q.runFrom start).loop = none) := by
  cases start <;> simp [Seq.runFrom]

/-- A DARK output becomes LIVE at level 0, and a LIVE one stays (R33, R85). -/
theorem Syn.energize_of_not_falling {y : Syn} (out : y.out ≠ .falling) :
    y.energize.out = .live ∧ (y.out = .dark → y.energize.level = 0 ∧ y.energize.ramp = none)
      ∧ (y.out = .live → y.energize = y) := by
  unfold Syn.energize
  cases state : y.out with
  | dark => simp
  | live => simp [state]
  | falling => exact absurd state out

/-- Settles O49: what R85 asks, and the taking of an accepted RUN. -/
theorem runIsDecidedAndTakesAStep : Obligations.RunIsDecidedAndTakesAStep := by
  unfold Obligations.RunIsDecidedAndTakesAStep
  refine ⟨fun s req start hears => ⟨fun holds => ?_, fun free refused => ?_⟩,
    fun s req start n hears state out peers lock slot plain => ?_⟩
  · exact ⟨_, State.exec_run_of_turned hears req start (State.runAnswer_of_holding holds) (by simp),
      s.answer_frameEnd req .run _ .busy⟩
  · have turned : s.runAnswer ≠ .ok := by
      intro ok
      obtain ⟨state, out, peers, lock⟩ := State.runAnswer_eq_ok_iff.1 ok
      obtain stopped | stopped | falling | ⟨m, expected, other, bad⟩ | ⟨notLocked, notAlone⟩ := refused
      · simp [stopped] at state
      · simp [stopped] at state
      · exact out falling
      · have ready := peers m expected other
        tauto
      · tauto
    exact ⟨_, State.exec_run_of_turned hears req start (State.runAnswer_of_refused free turned) (by simp),
      s.answer_frameEnd req .run _ .refused⟩
  · have runs := State.exec_run_of_accepted hears req start (State.runAnswer_eq_ok_iff.2 ⟨state, out, peers, lock⟩)
    have stands := s.standsFor_answer req .run (start.getD 0) .ok
    obtain ⟨stc, -, syn, -, pls, seq, -⟩ := stands.blocks
    obtain ⟨v, answered⟩ : ∃ v, v = s.frameEnd.answer req .run (start.getD 0) .ok := ⟨_, rfl⟩
    have frame := s.onlyChanges_answer req .run (start.getD 0) .ok
    have told := stands.offered
    rw [← answered] at runs stc syn pls seq frame told
    clear answered stands
    obtain ⟨u, on⟩ : ∃ u, u = v.runOn start := ⟨_, rfl⟩
    have moved : s.onlyChanges u [.stc, .syn, .seq, .lnk] := by
      refine (frame.mono (by simp)).trans ?_
      simp [State.onlyChanges_iff, on, State.runOn]
    have offered : s.lnk.frameEnded.offersNamed u.lnk
        (answerNames req .run (start.getD 0) .ok ++ [.status .run s.seq.state]) := by
      rw [on]
      exact told.status (s := ((v.setSeq (v.seq.runFrom start)).setSyn v.syn.energize).setStc
        { v.stc with energized := true }) (by simp [seq])
    have useq : u.seq = s.seq.runFrom start := by simp [on, State.runOn, seq]
    have ustc : u.stc = { s.stc with energized := true } := by simp [on, State.runOn, stc]
    have usyn : u.syn = s.syn.energize := by simp [on, State.runOn, syn]
    have upls : u.pls = s.pls := by simp [on, State.runOn, pls]
    rw [← on] at runs
    clear on
    have found : u.pls.slot u.seq.pointer = n := by rw [upls, useq, Seq.runFrom_pointer, slot]
    obtain ⟨live, dark, same⟩ := Syn.energize_of_not_falling out
    cases alive : n.live
    case true =>
      obtain ⟨kind, waits, joint⟩ := plain.resolve_left (by simp [alive])
      have walked := State.walked_of_normal (s := u) (by rwa [found]) (by rwa [found])
      obtain ⟨armed, taken, took⟩ := State.takeStep_plain (s := u) (n := n) (by rw [walked, found]) (.inl joint)
      obtain ⟨tstc, -, tsyn, -⟩ := took.taking
      obtain ⟨standing, closed⟩ := s.seq.runFrom_loop start
      refine ⟨_, runs, tstc.trans ustc, by rw [tsyn, usyn, live], fun d => by rw [tsyn, usyn]; exact dark d,
        fun l => by rw [tsyn, usyn]; exact same l, ?_, ?_, fun _ => ⟨by rw [armed], by rw [armed],
          fun none => ?_, fun named => ?_⟩, nofun, Lnk.offersNamed_append offered taken,
        moved.trans (took.mono (by simp))⟩
      all_goals rw [armed, walked]
      · exact (congrArg Seq.pointer useq).trans (Seq.runFrom_pointer _ _)
      · exact (congrArg Seq.ringStart useq).trans (Seq.runFrom_ringStart _ _)
      · exact (congrArg Seq.loop useq).trans (standing none)
      · exact (congrArg Seq.loop useq).trans (closed named)
    case false =>
      have walked := State.walked_of_dead (s := u) (by rwa [found])
      obtain ⟨rested, dry, took⟩ := State.takeStep_dry (s := u) (by rw [walked])
      obtain ⟨tstc, -, tsyn, -⟩ := took.taking
      refine ⟨_, runs, tstc.trans ustc, by rw [tsyn, usyn, live], fun d => by rw [tsyn, usyn]; exact dark d,
        fun l => by rw [tsyn, usyn]; exact same l, ?_, ?_, nofun, fun _ => ⟨by rw [rested], by rw [rested]; rfl,
          by rw [rested]⟩, Lnk.offersNamed_append offered dry, moved.trans (took.mono (by simp))⟩
      all_goals rw [rested, walked]
      · exact (congrArg Seq.pointer useq).trans (Seq.runFrom_pointer _ _)
      · exact (congrArg Seq.ringStart useq).trans (Seq.runFrom_ringStart _ _)

/-! ### CLEAR -/

namespace State
variable {s : State}

theorem stopped_iff : s.stopped = true ↔ s.seq.state = .tripped ∨ s.seq.state = .faulted := by
  simp [stopped]

theorem clearRefused_iff : s.clearRefused = true ↔ (s.seq.state = .tripped ∨ s.seq.state = .faulted)
    ∧ (s.syn.out ≠ .dark ∨ (s.seq.state = .faulted ∧ s.seq.faultCause = .strap)) := by
  simp [clearRefused, stopped]

theorem exec_clear_of_hearing (hears : s.hearing) (req : Requester) : exec (.clear req) s = .next
    (if s.clearRefused then s.frameEnd.answer req .clear 0 .refused
     else if s.stopped then (s.frameEnd.answer req .clear 0 .ok).clearStop
     else (s.frameEnd.answer req .clear 0 .ok).clearSticky) := by
  rw [exec_clear, requested_of_hearing hears]
  rfl

end State

/-- Settles O53, by the three cases of R88. -/
theorem clearRestoresTheStation : Obligations.ClearRestoresTheStation := by
  unfold Obligations.ClearRestoresTheStation
  intro s req hears
  have runs := State.exec_clear_of_hearing hears req
  obtain ⟨l, answered, told⟩ := s.frameEnd.answer_eq_setLnk req .clear 0 .ok
  refine ⟨fun ⟨stopped, bad⟩ => ?_, fun ⟨stopped, dark, strap⟩ => ?_, fun stopped => ?_⟩
  · rw [if_pos (State.clearRefused_iff.2 ⟨stopped, bad⟩)] at runs
    exact ⟨_, runs, s.answer_frameEnd req .clear 0 .refused⟩
  · have taken : ¬ s.clearRefused = true := by
      rw [State.clearRefused_iff]
      tauto
    rw [if_neg taken, if_pos (State.stopped_iff.2 stopped), answered] at runs
    refine ⟨_, l, runs, ?_, ?_, ?_, ?_, told, ?_, ?_⟩
    · simp [State.frameEnd_eq, State.clearStop, State.clearSticky]
    · simp [State.frameEnd_eq, State.clearStop, State.clearSticky, Ftu.restored]
    · simp [State.frameEnd_eq, State.clearStop, State.clearSticky]
    · simp [State.frameEnd_eq, State.clearStop, State.clearSticky]
    · exact (Lnk.offersNamed_nil l.clearFlags).status (s := (((s.frameEnd.setLnk l).clearSticky.setFtu
        (s.frameEnd.setLnk l).clearSticky.ftu.restored).setSeq
          { (s.frameEnd.setLnk l).clearSticky.seq with state := .idle, faultCause := .none, loop := none })) rfl
    · simp [State.frameEnd_eq, State.onlyChanges_iff, State.clearStop, State.clearSticky]
  · have taken : ¬ s.clearRefused = true := by
      rw [State.clearRefused_iff]
      tauto
    have free : ¬ s.stopped = true := by rwa [State.stopped_iff]
    rw [if_neg taken, if_neg free, answered] at runs
    refine ⟨_, l, runs, ?_, ?_, ?_, told, ?_, ?_⟩
    · simp [State.frameEnd_eq, State.clearSticky]
    · simp [State.frameEnd_eq, State.clearSticky]
    · simp [State.frameEnd_eq, State.clearSticky]
    · simp [State.frameEnd_eq, State.clearSticky, Lnk.clearFlags]
    · simp [State.frameEnd_eq, State.onlyChanges_iff, State.clearSticky]

end Sys2Proof.Machine
end

section
/-! PROOFS. Which codes a STEP_WRITE's record names, and what is stored of it (O46, O60). -/

namespace Sys2Proof.Machine

/-! ### The readers of the codes, as the code tables have them (R116) -/

theorem awaitOf_eq_nameOf (c : Byte) : awaitOf c = nameOf awaits c := by
  simp only [awaitOf, nameOf]
  generalize c.toNat = n
  match n with
  | 0 | 1 | 2 | 3 | 4 | _ + 5 => rfl

theorem settingOf_eq_nameOf (c : BitVec 2) : settingOf c = nameOf markerSettings c := by
  simp only [settingOf, nameOf]
  generalize c.toNat = n
  match n with
  | 0 | 1 | 2 | _ + 3 => rfl

theorem nameOf_eq_none_iff {α : Type} {w : Nat} {row : List α} {c : BitVec w} :
    nameOf row c = none ↔ row.length ≤ c.toNat := List.getElem?_eq_none_iff

/-- A name's code names it, where the field can hold every place of the row (R116). -/
theorem nameOf_codeOf {α : Type} [DecidableEq α] {row : List α} {w : Nat} (short : row.length ≤ 2 ^ w) {a : α}
    (named : a ∈ row) : nameOf row (codeOf row w a) = some a := by
  have place : row.idxOf a < row.length := List.idxOf_lt_length_iff.2 named
  rw [nameOf, codeOf, BitVec.toNat_ofNat, Nat.mod_eq_of_lt (by omega), List.getElem?_idxOf named]

theorem stepKindOf_eq_none_iff {c : BitVec 2} : stepKindOf c = none ↔ c = 3 := by
  revert c
  decide

theorem awaitOf_eq_none_iff {c : Byte} : awaitOf c = none ↔ 4 < c.toNat := by
  rw [awaitOf_eq_nameOf, nameOf_eq_none_iff]
  rfl

theorem policyOf_eq_none_iff {c : Byte} : policyOf c = none ↔ 2 < c.toNat := by
  rw [policyOf_eq_nameOf, nameOf_eq_none_iff]
  rfl

theorem profileOf_eq_none_iff {c : Byte} : profileOf c = none ↔ 7 < c.toNat ∧ c ≠ 255 := by
  unfold profileOf
  split_ifs with none index
  · simp [none]
  · simp [Nat.not_lt.2 (Nat.le_of_lt_succ index)]
  · simpa [Nat.lt_of_succ_le (Nat.not_lt.1 index)] using none

theorem markersOf_eq_none_iff {c : BitVec 4} :
    markersOf c = none ↔ c.extractLsb' 0 2 = 3 ∨ c.extractLsb' 2 2 = 3 := by
  revert c
  decide

/-- An overlay entry is not named when its slot is above 7 or its action above 5 (R61). -/
theorem overlayOf_eq_none_iff {e : RawOverlay} : overlayOf e = none ↔ 7 < e.slot.toNat ∨ 5 < e.action.toNat := by
  unfold overlayOf
  split_ifs with slot
  · simp [slot]
  · dsimp only
    split <;> grind

/-! ### Parts and lists that must be named -/

section
variable {α β γ : Type} {f : α → Option β}

theorem namedPart_eq_none_iff {o : Option α} : namedPart f o = none ↔ partIs o fun a => f a = none := by
  cases o <;> simp [namedPart, partIs]

/-- A named part, by what each of its names stands for. -/
theorem namedPart_eq_map {o : Option α} {x : Option β} (named : namedPart f o = some x) {k : α → β}
    (stands : ∀ a b, f a = some b → b = k a) : x = o.map k := by
  cases o with
  | none =>
    obtain rfl := Option.some.inj named
    rfl
  | some a =>
    obtain ⟨b, name, rfl⟩ := Option.map_eq_some_iff.1 named
    rw [stands a b name]
    rfl

theorem namedPart_eq_bind {o : Option α} {x : Option β} (named : namedPart f o = some x) : x = o.bind f := by
  cases o with
  | none => exact (Option.some.inj named).symm
  | some a =>
    obtain ⟨b, name, rfl⟩ := Option.map_eq_some_iff.1 named
    exact name.symm

theorem namedPart_map {g : β → α} (names : ∀ b, f (g b) = some b) (o : Option β) :
    namedPart f (o.map g) = some o := by
  cases o <;> simp [namedPart, names]

theorem namedList_cons {a : α} {l : List α} {m : List β} :
    namedList f (a :: l) = some m ↔ ∃ b bs, f a = some b ∧ namedList f l = some bs ∧ m = b :: bs := by
  simp only [namedList]
  cases f a <;> cases namedList f l <;> simp [eq_comm]

theorem namedList_eq_none_iff {l : List α} : namedList f l = none ↔ ∃ a ∈ l, f a = none := by
  induction l with
  | nil => simp [namedList]
  | cons a l ih =>
    rw [List.exists_mem_cons_iff, ← ih]
    simp only [namedList]
    cases f a <;> cases namedList f l <;> simp

theorem namedList_map {g : β → α} (names : ∀ b, f (g b) = some b) (l : List β) :
    namedList f (l.map g) = some l := by
  induction l with
  | nil => rfl
  | cons b l ih => exact namedList_cons.2 ⟨b, l, names b, ih, rfl⟩

/-- What every entry of a named list becomes, by what each entry names. -/
theorem map_of_namedList {l : List α} {m : List β} (named : namedList f l = some m) {g : β → γ} {k : α → γ}
    (stands : ∀ a b, f a = some b → g b = k a) : m.map g = l.map k := by
  induction l generalizing m with
  | nil =>
    obtain rfl := Option.some.inj named
    rfl
  | cons a l ih =>
    obtain ⟨b, bs, name, rest, rfl⟩ := namedList_cons.1 named
    rw [List.map_cons, List.map_cons, stands a b name, ih rest]

theorem forall_of_namedList {l : List α} {m : List β} (named : namedList f l = some m) {p : α → Prop} {q : β → Prop}
    (stands : ∀ a b, f a = some b → (q b ↔ p a)) : (∀ b ∈ m, q b) ↔ ∀ a ∈ l, p a := by
  induction l generalizing m with
  | nil =>
    obtain rfl := Option.some.inj named
    simp
  | cons a l ih =>
    obtain ⟨b, bs, name, rest, rfl⟩ := namedList_cons.1 named
    rw [List.forall_mem_cons, List.forall_mem_cons, stands a b name, ih rest]

end

/-! ### The record with its codes named -/

/-- The record that a STEP_WRITE carries, with the names of its codes given (R53, R54). -/
def namedWith (r : RawRecord) (kind : StepKind) (await : Option Await) (policy : Option TripPolicy)
    (profile : Option (Option ProfileIndex)) (markers : Option MarkerPart) (overlays : List OverlayChange) :
    StepRecord :=
  { live := r.live, wrap := r.wrap, kind := kind, loopCount := r.loopCount, level := r.level
    frequency := r.frequency, ramp := r.ramp, startAngle := r.startAngle, duration := some (r.duration.getD 0)
    unit := if r.duration.isSome && r.unit then .cycles else .samples
    await := some (await.getD .none)
    joint := r.joint.map fun j => { tag := j.tag, mask := j.mask, timeout := j.timeout }
    tripPolicy := policy, currentLimit := r.currentLimit, tripCycles := r.tripCycles
    profile := profile, markers := markers, holdAfter := r.holdAfter, notify := r.notify
    overlays := overlays, outcome := none }

theorem namedRecord_of_names {raw : RawRecord} {kind : StepKind} {await : Option Await} {policy : Option TripPolicy}
    {profile : Option (Option ProfileIndex)} {markers : Option MarkerPart} {overlays : List OverlayChange}
    (kinds : stepKindOf raw.kind = some kind) (waits : namedPart awaitOf raw.await = some await)
    (policies : namedPart policyOf raw.tripPolicy = some policy)
    (profiles : namedPart profileOf raw.profile = some profile)
    (outputs : namedPart markersOf raw.markers = some markers)
    (entries : namedList overlayOf raw.overlays = some overlays) :
    namedRecord raw = some (namedWith raw kind await policy profile markers overlays) := by
  rw [namedRecord, kinds, waits, policies, profiles, outputs, entries]
  rfl

theorem names_of_namedRecord {raw : RawRecord} {q : StepRecord} (named : namedRecord raw = some q) :
    ∃ kind await policy profile markers overlays, stepKindOf raw.kind = some kind
      ∧ namedPart awaitOf raw.await = some await ∧ namedPart policyOf raw.tripPolicy = some policy
      ∧ namedPart profileOf raw.profile = some profile ∧ namedPart markersOf raw.markers = some markers
      ∧ namedList overlayOf raw.overlays = some overlays
      ∧ q = namedWith raw kind await policy profile markers overlays := by
  unfold namedRecord at named
  split at named
  next kind await policy profile markers overlays kinds waits policies profiles outputs entries =>
    exact ⟨kind, await, policy, profile, markers, overlays, kinds, waits, policies, profiles, outputs, entries,
      (Option.some.inj named).symm⟩
  next => exact nomatch named

/-- A record's codes are all named just when those of each part are (R61). -/
theorem namedRecord_eq_none_iff_parts {raw : RawRecord} : namedRecord raw = none ↔
    stepKindOf raw.kind = none ∨ namedPart awaitOf raw.await = none ∨ namedPart policyOf raw.tripPolicy = none
      ∨ namedPart profileOf raw.profile = none ∨ namedPart markersOf raw.markers = none
      ∨ namedList overlayOf raw.overlays = none := by
  constructor
  · intro none
    by_contra named
    simp only [not_or, ← ne_eq, Option.ne_none_iff_exists'] at named
    obtain ⟨⟨_, kind⟩, ⟨_, await⟩, ⟨_, policy⟩, ⟨_, profile⟩, ⟨_, markers⟩, ⟨_, overlays⟩⟩ := named
    rw [namedRecord_of_names kind await policy profile markers overlays] at none
    exact nomatch none
  · intro none
    by_contra named
    obtain ⟨q, named⟩ := Option.ne_none_iff_exists'.1 named
    obtain ⟨_, _, _, _, _, _, kind, await, policy, profile, markers, overlays, -⟩ := names_of_namedRecord named
    simp [kind, await, policy, profile, markers, overlays] at none

/-- A record's codes are not all named just when one of them names nothing (R61). -/
theorem namedRecord_eq_none_iff {raw : RawRecord} : namedRecord raw = none ↔
    raw.kind = 3 ∨ partIs raw.await (fun a => 4 < a.toNat) ∨ partIs raw.tripPolicy (fun p => 2 < p.toNat)
      ∨ partIs raw.profile (fun p => 7 < p.toNat ∧ p ≠ 255)
      ∨ partIs raw.markers (fun m => m.extractLsb' 0 2 = 3 ∨ m.extractLsb' 2 2 = 3)
      ∨ ∃ e ∈ raw.overlays, 7 < e.slot.toNat ∨ 5 < e.action.toNat := by
  simp only [namedRecord_eq_none_iff_parts, stepKindOf_eq_none_iff, namedPart_eq_none_iff, awaitOf_eq_none_iff,
    policyOf_eq_none_iff, profileOf_eq_none_iff, markersOf_eq_none_iff, namedList_eq_none_iff, overlayOf_eq_none_iff]

theorem maskFits_eq_false_iff {own : Station} {count : Nat} {m : Mask} : maskFits own count m = false ↔
    maskHas m own = false ∨ ∃ n : Station, maskHas m n = true ∧ count ≤ n.toNat := by
  simp [maskFits, mem_stations, imp_iff_not_or]

/-- The refusals in the order of R61, and in the order in which the model tests them. -/
theorem refusals_in_order {kind await policy profile markers slot action entries mask : Prop} :
    (kind ∨ await ∨ policy ∨ profile ∨ markers ∨ slot ∨ action) ∨ entries ∨ mask
      ↔ mask ∨ slot ∨ profile ∨ entries ∨ kind ∨ await ∨ policy ∨ markers ∨ action := by
  tauto

/-- The contents that a STEP_WRITE refuses (R61). -/
theorem storeRecord_eq_none_iff {own : Station} {count : Nat} {raw : RawRecord} :
    storeRecord own count raw = none ↔ recordRefused own count raw := by
  have decided : storeRecord own count raw = none ↔ namedRecord raw = none ∨ 4 < raw.overlays.length
      ∨ partIs raw.joint fun j => maskFits own count j.mask = false := by
    unfold storeRecord
    cases named : namedRecord raw with
    | none => simp
    | some q =>
      obtain ⟨_, _, _, _, _, _, -, -, -, -, -, -, rfl⟩ := names_of_namedRecord named
      cases joint : raw.joint with
      | none => simp [namedWith, joint, partIs]
      | some j =>
        simp only [namedWith, joint, partIs]
        grind
  rw [decided, namedRecord_eq_none_iff]
  simp only [maskFits_eq_false_iff, and_or_left, exists_or]
  exact refusals_in_order

end Sys2Proof.Machine
end

section
/-! PROOFS. What a STEP_WRITE stores of a record whose codes are named: O46 and O60. -/

namespace Sys2Proof.Machine

/-! ### The clamps of R62 -/

theorem clampWord_eq {lo hi : Nat} (le : lo ≤ hi) (top : hi < 65536) (x : Word16) :
    clampWord lo hi x
      = if x.toNat < lo then BitVec.ofNat 16 lo else if hi < x.toNat then BitVec.ofNat 16 hi else x := by
  apply BitVec.eq_of_toNat_eq
  rw [toNat_clampWord le top, clampRange]
  split_ifs
  · rw [BitVec.toNat_ofNat]
    omega
  · rw [BitVec.toNat_ofNat]
    omega
  · omega

theorem clampWord_eq_self_iff {lo hi : Nat} (le : lo ≤ hi) (top : hi < 65536) {x : Word16} :
    clampWord lo hi x = x ↔ lo ≤ x.toNat ∧ x.toNat ≤ hi := by
  rw [← clampRange_eq_self_iff le, ← toNat_clampWord le top, BitVec.toNat_inj]

theorem clampCode_eq_self_iff {c : Code} : clampCode c = c ↔ c ≠ 0x8000 := by
  rw [clampCode_eq]
  split_ifs with lowest
  · subst lowest
    decide
  · simpa using lowest

/-- An ARM entry is stored as sent just when its parameters lie within their ranges (R62). -/
theorem OverlayArm.clamped_eq_self_iff {a : OverlayArm} : a.clamped = a ↔ a.fits := by
  cases a with
  | tone f b =>
    have word := clampWord_eq_self_iff (lo := 0) (hi := 5000) (by omega) (by omega) (x := b)
    have wide : (if f.toNat > 250000 then 250000 else f) = f ↔ f.toNat ≤ 250000 := by
      split_ifs with high
      · refine iff_of_false (fun same => ?_) (by omega)
        rw [← same] at high
        exact absurd high (by decide)
      · exact iff_of_true rfl (by omega)
    rw [OverlayArm.clamped, OverlayArm.tone.injEq, wide, word]
    simp [OverlayArm.fits]
  | offset c => simp [OverlayArm.clamped, OverlayArm.fits, clampCode_eq_self_iff]
  | notch d w0 w1 =>
    simp [OverlayArm.clamped, OverlayArm.fits, clampWord_eq_self_iff (lo := 0) (hi := 10000) (by omega) (by omega)]
  | flattop b w0 w1 =>
    simp [OverlayArm.clamped, OverlayArm.fits, clampWord_eq_self_iff (lo := 0) (hi := 10000) (by omega) (by omega)]
  | force c w0 w1 => simp [OverlayArm.clamped, OverlayArm.fits, clampCode_eq_self_iff]

/-- An overlay entry as R62 stores it. -/
def OverlayChange.clamped (e : OverlayChange) : OverlayChange := { e with arm := e.arm.map OverlayArm.clamped }

theorem OverlayChange.clamped_eq_self_iff {e : OverlayChange} :
    e.clamped = e ↔ ∀ a, e.arm = some a → a.fits := by
  obtain ⟨slot, arm⟩ := e
  cases arm with
  | none => simp [OverlayChange.clamped]
  | some a => simp [OverlayChange.clamped, OverlayArm.clamped_eq_self_iff]

theorem map_eq_self_iff {α : Type} {f : α → α} {o : Option α} : o.map f = o ↔ ∀ a, o = some a → f a = a := by
  cases o <;> simp

theorem list_map_eq_self_iff {α : Type} {f : α → α} {l : List α} : l.map f = l ↔ ∀ a ∈ l, f a = a := by
  induction l <;> simp_all

/-- A record is stored as sent, but for its trimming, just when every value lies within its range (R62). -/
theorem StepRecord.clamped_eq_self_iff {r : StepRecord} : r.clamped = r ↔
    (∀ l, r.level = some l → levelFits l.toNat) ∧ (∀ f, r.frequency = some f → frequencyFits f.toNat)
      ∧ (∀ j, r.joint = some j → j.timeout ≠ 0)
      ∧ (∀ c, r.currentLimit = some c → 1 ≤ c.toNat ∧ c.toNat ≤ 32767)
      ∧ ∀ e ∈ r.overlays, ∀ a, e.arm = some a → a.fits := by
  have joints : ∀ j : JointPart, { j with timeout := if j.timeout = 0 then 1 else j.timeout } = j ↔ j.timeout ≠ 0 := by
    rintro ⟨tag, mask, timeout⟩
    by_cases zero : timeout = 0
    · simp [zero]
    · rw [if_neg zero]
      exact iff_of_true rfl zero
  have parts : r.clamped = r ↔ r.level.map (clampWord 0 15000) = r.level
      ∧ r.frequency.map (clampWord 4000 7000) = r.frequency
      ∧ (r.joint.map fun j => { j with timeout := if j.timeout = 0 then 1 else j.timeout }) = r.joint
      ∧ r.currentLimit.map (clampWord 1 32767) = r.currentLimit
      ∧ r.overlays.map OverlayChange.clamped = r.overlays := by
    constructor
    · intro same
      exact ⟨congrArg StepRecord.level same, congrArg StepRecord.frequency same, congrArg StepRecord.joint same,
        congrArg StepRecord.currentLimit same, congrArg StepRecord.overlays same⟩
    · rintro ⟨level, frequency, joint, limit, overlays⟩
      unfold StepRecord.clamped
      rw [level, frequency, joint, limit]
      exact congrArg (fun l => { r with overlays := l }) overlays
  rw [parts, map_eq_self_iff, map_eq_self_iff, map_eq_self_iff, map_eq_self_iff, list_map_eq_self_iff]
  simp only [OverlayChange.clamped_eq_self_iff, joints]
  simp [clampWord_eq_self_iff, levelFits, frequencyFits]

/-! ### The stored record -/

/-- What an entry that is named is stored as (R61, R62). -/
theorem clamped_of_overlayOf {e : RawOverlay} {x : OverlayChange} (named : overlayOf e = some x) :
    x.clamped = storedOverlay e := by
  unfold overlayOf at named
  split_ifs at named with slot
  have code : ∀ c : Code, clampCode c = if c = 0x8000 then 0x8001 else c := clampCode_eq
  have word : ∀ top : Nat, top < 65536 → ∀ x : Word16,
      clampWord 0 top x = if top < x.toNat then BitVec.ofNat 16 top else x := by
    intro top small x
    rw [clampWord_eq (Nat.zero_le _) small]
    simp
  dsimp only at named
  split at named
  case h_7 => exact nomatch named
  all_goals
    obtain rfl := Option.some.inj named
    simp [OverlayChange.clamped, OverlayArm.clamped, storedOverlay, *]

/-- The parameters that an entry names lie outside their ranges just as R62 says of the entry. -/
theorem fits_of_overlayOf {e : RawOverlay} {x : OverlayChange} (named : overlayOf e = some x) :
    (∀ a, x.arm = some a → a.fits) ↔ ¬ overlayOutOfRange e := by
  have action : ∀ {n : Nat}, n < 16 → e.action.toNat = n → e.action = BitVec.ofNat 4 n := by
    intro n small same
    apply BitVec.eq_of_toNat_eq
    rw [same, BitVec.toNat_ofNat, Nat.mod_eq_of_lt small]
  unfold overlayOf at named
  split_ifs at named with slot
  dsimp only at named
  split at named
  case h_7 => exact nomatch named
  all_goals
    next code =>
      obtain rfl := Option.some.inj named
      have is := action (by omega) code
      simp [OverlayArm.fits, overlayOutOfRange, is]

section
variable {raw : RawRecord} {q : StepRecord}

/-- A NORMAL record as it is stored (R53–R55, R62). -/
theorem clamped_trimmed_of_normal (named : namedRecord raw = some q) (normal : raw.kind = 0) :
    q.clamped.trimmed = storedRecord raw := by
  obtain ⟨kind, await, policy, profile, markers, overlays, kinds, waits, policies, profiles, outputs, entries, rfl⟩ :=
    names_of_namedRecord named
  obtain rfl : kind = .normal := by
    rw [normal] at kinds
    exact (Option.some.inj kinds).symm
  have limit : ∀ c : Word16, clampWord 1 32767 c = if c = 0 then 1 else if 32767 < c.toNat then 32767 else c := by
    intro c
    have zero : c.toNat < 1 ↔ c = 0 := by bv_omega
    rw [clampWord_eq (by omega) (by omega)]
    simp only [zero]
    rfl
  have level : ∀ l : Word16, clampWord 0 15000 l = if 15000 < l.toNat then 15000 else l := by
    intro l
    rw [clampWord_eq (by omega) (by omega), if_neg (by omega)]
    rfl
  have profiles' := namedPart_eq_map profiles (k := fun p => if p = 255 then none else some (p.extractLsb' 0 3)) (by
    intro p i name
    unfold profileOf at name
    split_ifs at name ⊢ <;> exact (Option.some.inj name).symm)
  have outputs' := namedPart_eq_map outputs (k := fun m =>
      { out0 := (nameOf markerSettings (m.extractLsb' 0 2)).getD .keep
        out1 := (nameOf markerSettings (m.extractLsb' 2 2)).getD .keep }) (by
    intro m x name
    rw [← settingOf_eq_nameOf, ← settingOf_eq_nameOf]
    unfold markersOf at name
    split at name
    next out0 out1 => rw [out0, out1]; exact (Option.some.inj name).symm
    next => exact nomatch name)
  have overlays' := map_of_namedList entries (g := OverlayChange.clamped) (k := storedOverlay)
    fun e x => clamped_of_overlayOf
  have waits' := namedPart_eq_bind waits
  have policies' := namedPart_eq_bind policies
  rw [funext awaitOf_eq_nameOf] at waits'
  rw [funext policyOf_eq_nameOf] at policies'
  have frequency : ∀ f : Word16,
      clampWord 4000 7000 f = if f.toNat < 4000 then 4000 else if 7000 < f.toNat then 7000 else f := by
    intro f
    rw [clampWord_eq (by omega) (by omega)]
    rfl
  have unit : (if raw.duration.isSome ∧ raw.unit = true then DurationUnit.cycles else .samples)
      = if raw.duration.isSome && raw.unit then .cycles else .samples := by
    simp
  have joint : (raw.joint.map fun j : RawJoint =>
        { tag := j.tag, mask := j.mask, timeout := if j.timeout = 0 then (1 : Byte) else j.timeout : JointPart })
      = (raw.joint.map fun j => { tag := j.tag, mask := j.mask, timeout := j.timeout : JointPart }).map fun j =>
          { j with timeout := if j.timeout = 0 then 1 else j.timeout } := by
    rw [Option.map_map]
    rfl
  rw [storedRecord, ← funext level, ← funext frequency, ← funext limit, ← waits', ← policies', ← profiles',
    ← outputs', ← overlays', unit, joint]
  rfl

/-- A loop marker as it is stored: its core fields alone (R52, R62). -/
theorem clamped_trimmed_of_loopBegin (named : namedRecord raw = some q) (kind : raw.kind = 1) :
    q.clamped.trimmed = { StepRecord.empty with
      live := raw.live, wrap := raw.wrap, kind := .loopBegin, loopCount := raw.loopCount } := by
  obtain ⟨name, _, _, _, _, _, kinds, -, -, -, -, -, rfl⟩ := names_of_namedRecord named
  rw [kind] at kinds
  obtain rfl := Option.some.inj kinds
  rfl

theorem clamped_trimmed_of_loopEnd (named : namedRecord raw = some q) (kind : raw.kind = 2) :
    q.clamped.trimmed = { StepRecord.empty with live := raw.live, wrap := raw.wrap, kind := .loopEnd } := by
  obtain ⟨name, _, _, _, _, _, kinds, -, -, -, -, -, rfl⟩ := names_of_namedRecord named
  rw [kind] at kinds
  obtain rfl := Option.some.inj kinds
  rfl

theorem not_forall_iff_partIs {α : Type} {o : Option α} {p r : α → Prop} (opposite : ∀ a, ¬ p a ↔ r a) :
    (¬ ∀ a, o = some a → p a) ↔ partIs o r := by
  simp [partIs, ← opposite]

/-- A record is clamped just when a value of it was sent out of its range (R62). -/
theorem clamped_ne_iff_outOfRange (named : namedRecord raw = some q) : q.clamped ≠ q ↔ recordOutOfRange raw := by
  obtain ⟨_, _, _, _, _, _, -, -, -, -, -, entries, rfl⟩ := names_of_namedRecord named
  have overlays := forall_of_namedList entries fun e x => fits_of_overlayOf
  have joints : (∀ j : JointPart, (raw.joint.map fun j => { tag := j.tag, mask := j.mask, timeout := j.timeout : JointPart })
      = some j → j.timeout ≠ 0) ↔ ∀ j, raw.joint = some j → j.timeout ≠ 0 := by
    cases raw.joint <;> simp
  rw [ne_eq, StepRecord.clamped_eq_self_iff, not_and_or, not_and_or, not_and_or, not_and_or]
  refine or_congr (not_forall_iff_partIs fun l => ?_) (or_congr (not_forall_iff_partIs fun f => ?_)
    (or_congr ((not_congr joints).trans (not_forall_iff_partIs fun j => ?_))
      (or_congr (not_forall_iff_partIs fun c => ?_) ((not_congr overlays).trans ?_))))
  · simp [levelFits]
  · simp only [frequencyFits]
    omega
  · exact not_not
  · have zero : c = 0 ↔ c.toNat = 0 := by bv_omega
    rw [zero]
    omega
  · simp

end

/-! ### O46 -/

section
variable {s : State} {req : Requester} {slot : Slot} {raw : RawRecord}

theorem exec_stepWrite_of_current (hears : s.hearing) (current : s.isCurrentSlot slot = true) :
    exec (.stepWrite req slot raw) s = .next (s.frameEnd.answer req .stepWrite slot .busy) := by
  rw [exec_stepWrite, State.requested_of_hearing hears]
  exact congrArg Host.Outcome.next (if_pos current)

theorem exec_stepWrite_of_refused (hears : s.hearing) (free : ¬ s.isCurrentSlot slot = true)
    (refused : storeRecord s.own s.count raw = none) :
    exec (.stepWrite req slot raw) s = .next (s.frameEnd.answer req .stepWrite slot .range) := by
  have own : storeRecord s.frameEnd.own s.frameEnd.count raw = none := refused
  rw [exec_stepWrite, State.requested_of_hearing hears, own]
  exact congrArg Host.Outcome.next (if_neg free)

theorem exec_stepWrite_of_stored (hears : s.hearing) (req : Requester) (free : ¬ s.isCurrentSlot slot = true)
    {r : StepRecord} {clamped : Bool} (stored : storeRecord s.own s.count raw = some (r, clamped)) :
    exec (.stepWrite req slot raw) s
      = .next ((s.frameEnd.answer req .stepWrite slot (if clamped then .clamped else .ok)).setPls
          ((s.frameEnd.answer req .stepWrite slot (if clamped then .clamped else .ok)).pls.setSlot slot r)) := by
  have own : storeRecord s.frameEnd.own s.frameEnd.count raw = some (r, clamped) := stored
  rw [exec_stepWrite, State.requested_of_hearing hears, own]
  exact congrArg Host.Outcome.next (if_neg free)

end

/-- Settles O46: which records are refused, and part by part what is stored of the others. -/
theorem stepWriteStoresARecordInRange : Obligations.StepWriteStoresARecordInRange := by
  unfold Obligations.StepWriteStoresARecordInRange
  refine ⟨fun s req slot raw hears => ?_, fun own count raw => ⟨storeRecord_eq_none_iff, fun r clamped stored => ?_⟩⟩
  · intro held
    have current : s.isCurrentSlot slot = true ↔ held := by
      simp only [State.isCurrentSlot, Bool.and_eq_true, decide_eq_true_eq, holdsSlot_iff, held]
      rw [and_comm, eq_comm]
    refine ⟨fun busy => ?_, fun free refused => ?_, fun free taken => ?_⟩
    · exact ⟨_, exec_stepWrite_of_current hears (current.2 busy), s.answer_frameEnd req .stepWrite slot .busy⟩
    · exact ⟨_, exec_stepWrite_of_refused hears (mt current.1 free) (storeRecord_eq_none_iff.2 refused),
        s.answer_frameEnd req .stepWrite slot .range⟩
    · obtain ⟨⟨r, clamped⟩, stored⟩ := Option.ne_none_iff_exists'.1 (mt storeRecord_eq_none_iff.1 taken)
      have runs := exec_stepWrite_of_stored hears req (mt current.1 free) stored
      obtain ⟨q, named, -, -, rfl, flag⟩ := storeRecord_eq_some_iff.1 stored
      obtain ⟨code, coded⟩ : ∃ code, code = if clamped then AnswerCode.clamped else .ok := ⟨_, rfl⟩
      rw [← coded] at runs
      have stands := s.standsFor_answer req .stepWrite slot code
      obtain ⟨-, -, -, -, pls, -, -⟩ := stands.blocks
      have outOfRange := clamped_ne_iff_outOfRange named
      refine ⟨_, code, runs, fun kind => ?_, fun kind => ?_, fun kind => ?_, fun i other => ?_, ?_, ?_,
        fun out => ?_, fun inside => ?_, stands.offered⟩
      · simpa using clamped_trimmed_of_normal named kind
      · simpa using clamped_trimmed_of_loopBegin named kind
      · simpa using clamped_trimmed_of_loopEnd named kind
      · simp [Pls.slot_setSlot_ne _ _ other, pls]
      · simp [pls]
      · refine (stands.frame.mono (b := [.pls, .lnk]) (by simp)).trans ?_
        simp [State.onlyChanges_iff]
      · simp [coded, flag, outOfRange.2 out]
      · simp [coded, flag, not_not.1 (mt outOfRange.1 inside)]
  · obtain ⟨q, named, -, -, rfl, rfl⟩ := storeRecord_eq_some_iff.1 stored
    refine ⟨storeRecord_fits stored, ?_, by simpa using clamped_ne_iff_outOfRange named⟩
    obtain ⟨-, -, none⟩ := namedRecord_eq_some named
    unfold StepRecord.trimmed
    split
    · exact none
    · rfl
    · rfl

/-! ### O60 -/

/-- A stored overlay change is named by the entry that carries it (R116). -/
theorem overlayOf_toRaw (e : OverlayChange) : overlayOf e.toRaw = some e := by
  have slot : ∀ i : OverlayIndex, i.toNat % 16 ≤ 7 ∧ (i.setWidth 4).extractLsb' 0 3 = i := by decide
  have angles : ∀ w0 w1 : Angle, (w0 ++ w1).extractLsb' 16 16 = w0 ∧ (w0 ++ w1).extractLsb' 0 16 = w1 := by
    intro w0 w1
    exact ⟨BitVec.extractLsb'_append_eq_left, BitVec.extractLsb'_append_eq_right⟩
  obtain ⟨i, arm⟩ := e
  obtain ⟨low, same⟩ := slot i
  cases arm with
  | none => simp [OverlayChange.toRaw, overlayOf, low, same]
  | some a => cases a <;> simp [OverlayChange.toRaw, overlayOf, low, same, angles]

theorem profileOf_profileByte (i : Option ProfileIndex) : profileOf (profileByte i) = some i := by
  cases i with
  | none => rfl
  | some i =>
    revert i
    decide

theorem markersOf_codes (m : MarkerPart) :
    markersOf (codeOf markerSettings 2 m.out1 ++ codeOf markerSettings 2 m.out0) = some m := by
  obtain ⟨out0, out1⟩ := m
  cases out0 <;> cases out1 <;> rfl

/-- A record's image names the record, with the parts that a STEP_WRITE sets as it sets them (R53, R54, R116). -/
theorem namedRecord_toRaw (r : StepRecord) : namedRecord r.toRaw
    = some { r with
        duration := some (r.duration.getD 0)
        unit := if r.duration.isSome && decide (r.unit = .cycles) then .cycles else .samples
        await := some (r.await.getD .none), outcome := none } := by
  have kind : stepKindOf (codeOf stepKinds 2 r.kind) = some r.kind := by cases r.kind <;> rfl
  have await : ∀ a, awaitOf (codeOf awaits 8 a) = some a := by rintro ⟨⟩ <;> rfl
  have policy : ∀ p, policyOf (codeOf tripPolicies 8 p) = some p := by rintro ⟨⟩ <;> rfl
  rw [namedRecord_of_names (raw := r.toRaw) kind (namedPart_map await _) (namedPart_map policy _)
    (namedPart_map profileOf_profileByte _) (namedPart_map markersOf_codes _) (namedList_map overlayOf_toRaw _)]
  have joint : r.toRaw.joint.map (fun j => { tag := j.tag, mask := j.mask, timeout := j.timeout : JointPart })
      = r.joint := by
    unfold StepRecord.toRaw
    cases r.joint <;> rfl
  rw [namedWith, joint]
  rfl

/-- A record that names itself, within its ranges and its mask, is stored as it is (R61, R62). -/
theorem storeRecord_of_self {own : Station} {count : Nat} {raw : RawRecord} {r x : StepRecord}
    (names : namedRecord raw = some x) (length : raw.overlays.length ≤ 4)
    (masks : ∀ j, x.joint = some j → maskFits own count j.mask = true) (fits : x.fits) (trimmed : x.trimmed = r) :
    storeRecord own count raw = some (r, false) := by
  obtain ⟨level, frequency, joint, limit, overlays, -⟩ := fits
  have kept : x.clamped = x := StepRecord.clamped_eq_self_iff.2 ⟨level, frequency, joint, limit, overlays⟩
  exact storeRecord_eq_some_iff.2 ⟨x, names, length, masks, by rw [kept, trimmed], by simp [kept]⟩

/-- A NORMAL record as a STEP_WRITE stores it names itself, whatever its outcome (R53, R54, R116). -/
theorem namedRecord_toRaw_of_normal {raw : RawRecord} {await : Option Await} {policy : Option TripPolicy}
    {profile : Option (Option ProfileIndex)} {markers : Option MarkerPart} {overlays : List OverlayChange}
    {q : StepRecord} (named : q = namedWith raw .normal await policy profile markers overlays)
    (o : Option StepOutcome) :
    namedRecord ({ q.clamped.trimmed with outcome := o }).toRaw = some q.clamped.trimmed := by
  have unit : ∀ u : DurationUnit, (if true && decide (u = .cycles) then DurationUnit.cycles else .samples) = u := by
    rintro ⟨⟩ <;> rfl
  rw [namedRecord_toRaw]
  subst named
  refine congrArg some ?_
  exact congrArg (fun u => { (namedWith raw .normal await policy profile markers overlays).clamped.trimmed with
    unit := u }) (unit _)

/-- Settles O60: a stored record names itself, within its ranges. -/
theorem stepCopiesWriteBackUnchanged : Obligations.StepCopiesWriteBackUnchanged := by
  unfold Obligations.StepCopiesWriteBackUnchanged
  intro own count raw r clamped o stored
  obtain ⟨q, named, entries, masks, rfl, -⟩ := storeRecord_eq_some_iff.1 stored
  have fits := storeRecord_fits stored
  obtain ⟨kind, await, policy, profile, markers, overlays, -, -, -, -, -, given, with_⟩ := names_of_namedRecord named
  cases kind with
  | normal =>
    refine storeRecord_of_self (namedRecord_toRaw_of_normal with_ o) ?_ (fun j joint => ?_) fits (by rw [with_]; rfl)
    · obtain ⟨-, -, -, -, -, short⟩ := fits
      simpa [StepRecord.toRaw] using short
    · have clamped : (q.joint.map fun j => { j with timeout := if j.timeout = 0 then 1 else j.timeout }) = some j := by
        rw [← joint, with_]
        rfl
      obtain ⟨k, sent, rfl⟩ := Option.map_eq_some_iff.1 clamped
      exact masks k sent
  | loopBegin =>
    have trimmed : q.clamped.trimmed = { StepRecord.empty with
        live := raw.live, wrap := raw.wrap, kind := .loopBegin, loopCount := raw.loopCount } := by
      rw [with_]
      rfl
    rw [trimmed]
    exact storeRecord_of_self (namedRecord_toRaw _) (Nat.zero_le _) nofun (by simp [StepRecord.fits, StepRecord.empty])
      rfl
  | loopEnd =>
    have trimmed : q.clamped.trimmed = { StepRecord.empty with
        live := raw.live, wrap := raw.wrap, kind := .loopEnd } := by
      rw [with_]
      rfl
    rw [trimmed]
    exact storeRecord_of_self (namedRecord_toRaw _) (Nat.zero_le _) nofun (by simp [StepRecord.fits, StepRecord.empty])
      rfl

end Sys2Proof.Machine
end

section
/-! PROOFS. Where a PROFILE_WRITE goes (O47). -/

namespace Sys2Proof.Machine

/-- A profile entry as R64 stores it. -/
theorem clampedEntry_eq (e : ProfileEntry) : ProfileEntry.clamped e =
    { order := if e.order.toNat < 2 then 2 else if 50 < e.order.toNat then 50 else e.order
      amplitude := if 400 < e.amplitude.toNat then 400 else e.amplitude, phase := e.phase } := by
  have order : BitVec.ofNat 8 (clampRange 2 50 e.order.toNat)
      = if e.order.toNat < 2 then 2 else if 50 < e.order.toNat then 50 else e.order := by
    apply BitVec.eq_of_toNat_eq
    have bounds := clampRange_bounds (lo := 2) (hi := 50) (by omega) e.order.toNat
    rw [BitVec.toNat_ofNat, Nat.mod_eq_of_lt (by omega), clampRange]
    split_ifs
    · show _ = 2
      omega
    · show _ = 50
      omega
    · omega
  have amplitude : clampWord 0 400 e.amplitude = if 400 < e.amplitude.toNat then 400 else e.amplitude := by
    rw [clampWord_eq (by omega) (by omega), if_neg (by omega)]
    rfl
  rw [ProfileEntry.clamped, order, amplitude]

namespace State
variable {s : State} {i : ProfileIndex} (l : List ProfileEntry)

/-- An accepted list goes to the pending copy when one is held for the index or the profile is in force (R28, R65). -/
theorem placeProfile_of_pending (waits : s.syn.profile = some i ∨ ∃ old, s.syn.pendingCopy = some (i, old)) :
    s.placeProfile i l = s.setSyn { s.syn with pendingCopy := some (i, l) } := by
  have pending : ((s.syn.pendingCopy.any fun p => p.1 = i) || s.syn.profile = some i) = true := by
    obtain inForce | ⟨old, held⟩ := waits
    · simp [inForce]
    · simp [held]
  exact if_pos pending

theorem placeProfile_of_free (inForce : s.syn.profile ≠ some i) (none : ∀ old, s.syn.pendingCopy ≠ some (i, old)) :
    s.placeProfile i l = s.setPls (s.pls.setProfile i l) := by
  have free : ¬ ((s.syn.pendingCopy.any fun p => p.1 = i) || s.syn.profile = some i) = true := by
    cases held : s.syn.pendingCopy with
    | none => simp [inForce]
    | some p =>
      obtain ⟨j, old⟩ := p
      have other : j ≠ i := by
        rintro rfl
        exact none old held
      simp [inForce, other]
  exact if_neg free

theorem exec_profileWrite_of_refused (hears : s.hearing) {req : Requester} {index count : Byte}
    {entries : List ProfileEntry} (refused : 7 < index.toNat ∨ 12 < count.toNat) :
    exec (.profileWrite req index count entries) s = .next (s.frameEnd.answer req .profileWrite index .range) := by
  have bad : (decide (index.toNat > 7) || decide (count.toNat > 12) || decide (entries.length > 12)) = true := by
    obtain high | many := refused
    · simp [high]
    · simp [many]
  rw [exec_profileWrite, requested_of_hearing hears, if_pos bad]

theorem exec_profileWrite_of_accepted (hears : s.hearing) {req : Requester} {index count : Byte}
    {entries : List ProfileEntry} (named : index.toNat = i.toNat) (few : count.toNat ≤ 12)
    (all : entries.length = count.toNat) {code : AnswerCode}
    (coded : code = if entries.map ProfileEntry.clamped = entries then .ok else .clamped) :
    exec (.profileWrite req index count entries) s = .next ((s.frameEnd.answer req .profileWrite index code).placeProfile
      i (entries.map ProfileEntry.clamped)) := by
  have low : i.toNat < 8 := i.isLt
  have good : ¬ (decide (index.toNat > 7) || decide (count.toNat > 12) || decide (entries.length > 12)) = true := by
    simp
    omega
  have place : index.extractLsb' 0 3 = i := by
    apply BitVec.eq_of_toNat_eq
    rw [BitVec.extractLsb'_toNat, named, Nat.shiftRight_zero, Nat.mod_eq_of_lt (by omega)]
  have answer : (if entries.map ProfileEntry.clamped ≠ entries then AnswerCode.clamped else .ok) = code := by
    rw [coded, ite_not]
  rw [exec_profileWrite, requested_of_hearing hears, if_neg good, place, answer]

end State

/-- Settles O47. -/
theorem profileWriteIsPlaced : Obligations.ProfileWriteIsPlaced := by
  unfold Obligations.ProfileWriteIsPlaced
  intro s req index count entries i hears
  refine ⟨fun refused => ⟨_, State.exec_profileWrite_of_refused hears refused,
    s.answer_frameEnd req .profileWrite index .range⟩, fun named few all => ?_⟩
  obtain ⟨code, coded⟩ : ∃ code, code = if entries.map ProfileEntry.clamped = entries then AnswerCode.ok else .clamped :=
    ⟨_, rfl⟩
  have runs := State.exec_profileWrite_of_accepted hears (req := req) named few all coded
  have stored := funext clampedEntry_eq
  have stands := s.standsFor_answer req .profileWrite index code
  obtain ⟨-, -, syn, -, pls, -, -⟩ := stands.blocks
  have frame := stands.frame
  have told := stands.offered
  obtain ⟨u, answered⟩ : ∃ u, u = s.frameEnd.answer req .profileWrite index code := ⟨_, rfl⟩
  rw [← answered] at runs syn pls frame told
  clear answered stands
  by_cases waits : s.syn.profile = some i ∨ ∃ old, s.syn.pendingCopy = some (i, old)
  · rw [State.placeProfile_of_pending _ (by rwa [syn])] at runs
    refine ⟨_, entries.map ProfileEntry.clamped, code, runs, by rw [stored], coded, told, fun _ => ⟨?_, ?_⟩,
      fun ⟨apart, unheld⟩ => ?_⟩
    · rw [State.setSyn_syn, syn]
    · refine (frame.mono (b := [.syn, .lnk]) (by simp)).trans ?_
      simp [State.onlyChanges_iff]
    · obtain force | ⟨old, held⟩ := waits
      · exact absurd force apart
      · exact absurd held (unheld old)
  · have inForce : s.syn.profile ≠ some i := fun force => waits (.inl force)
    have none : ∀ old, s.syn.pendingCopy ≠ some (i, old) := fun old held => waits (.inr ⟨old, held⟩)
    rw [State.placeProfile_of_free _ (by rwa [syn]) (by rwa [syn])] at runs
    refine ⟨_, entries.map ProfileEntry.clamped, code, runs, by rw [stored], coded, told, fun pending => absurd pending waits,
      fun _ => ⟨?_, fun j other => ?_, ?_, ?_⟩⟩
    · rw [State.setPls_pls, Pls.profile_setProfile_same]
    · rw [State.setPls_pls, Pls.profile_setProfile_ne _ _ other, pls]
    · rw [State.setPls_pls, pls]; rfl
    · refine (frame.mono (b := [.pls, .lnk]) (by simp)).trans ?_
      simp [State.onlyChanges_iff]

end Sys2Proof.Machine
end

section
/-! PROOFS. The events of the line, and the frames that leave the queue and return to it: O41, O42, O44. -/

namespace Sys2Proof.Machine

/-! ### O41 -/

section
variable {s : State}

/-- A frame that LNK has not begun to assemble is not received (R95). -/
theorem State.received_of_not_assembling (k : s.lnk.assembling = false) (n : NodeNumber) (isThis : Payload → Bool)
    (f : State → State) : s.received n isThis f = s := State.heard_of_not_assembling k _

/-- The end of a frame that LNK has not assembled leaves the station as it is, of whatever kind it is (R95). -/
theorem exec_of_not_assembling {c : Instr} (frame : c.isFrame = true) (ready : s.ready)
    (k : s.lnk.assembling = false) : exec c s = .next s := by
  cases c with
  | badFrame => rw [exec_badFrame, State.taking_of_ready ready, State.badFrame, State.heard_of_not_assembling k]
  | ownAbortedFrameDiscarded =>
    rw [exec_ownAbortedFrameDiscarded, State.taking_of_ready ready, State.heard_of_not_assembling k, ite_self]
  | markReceived n m =>
    rw [exec_markReceived, State.taking_of_ready ready, State.received_of_not_assembling k]
  | tripReceived n cause slot =>
    rw [exec_tripReceived, State.taking_of_ready ready, State.received_of_not_assembling k]
  | joinReceived n tag mask =>
    rw [exec_joinReceived, State.taking_of_ready ready, State.received_of_not_assembling k]
  | withdrawReceived n tag reason =>
    rw [exec_withdrawReceived, State.taking_of_ready ready, State.received_of_not_assembling k]
  | statusReceived n cause q =>
    rw [exec_statusReceived, State.taking_of_ready ready, State.received_of_not_assembling k]
  | replyFrameReceived n kind =>
    rw [exec_replyFrameReceived, State.taking_of_ready ready, State.received_of_not_assembling k]
  | ignoredFrameReceived n =>
    rw [exec_ignoredFrameReceived, State.taking_of_ready ready, State.received_of_not_assembling k]
  | setup req v => exact State.requested_of_not_assembling ready k _
  | stepWrite req slot raw => exact State.requested_of_not_assembling ready k _
  | profileWrite req index count entries => exact State.requested_of_not_assembling ready k _
  | stepRead req slot => exact State.requested_of_not_assembling ready k _
  | run req start => exact State.requested_of_not_assembling ready k _
  | suspend req => exact State.requested_of_not_assembling ready k _
  | release req => exact State.requested_of_not_assembling ready k _
  | abort req => exact State.requested_of_not_assembling ready k _
  | clear req => exact State.requested_of_not_assembling ready k _
  | query req => exact State.requested_of_not_assembling ready k _
  | unreadableRequest req kind first => exact State.requested_of_not_assembling ready k _
  | _ => exact nomatch frame

theorem Ctb.passTicks_of_within {c : Ctb} {elapsed : Nat} (within : c.divider + elapsed ≤ 1599) :
    c.passTicks elapsed = { c with tick := c.tick + BitVec.ofNat 32 elapsed, divider := c.divider + elapsed } := by
  simp [Ctb.passTicks, Nat.min_eq_right within]

/-- A start bit some ticks after the latest timed event, whatever LNK holds then (R95, R119). -/
theorem State.startBit_passTicks {elapsed : Nat} (within : s.ctb.divider + elapsed ≤ 1599) (l : Lnk) :
    ((s.passTicks elapsed).setLnk l).startBit = s.startBitAfter elapsed l := by
  have kept : (s.passTicks elapsed).ctb = { s.ctb with tick := s.ctb.tick + BitVec.ofNat 32 elapsed
                                                       divider := s.ctb.divider + elapsed } := by
    rw [State.passTicks, State.setCtb_ctb, Ctb.passTicks_of_within within]
  unfold State.startBit State.startBitAfter
  rw [State.setLnk_ctb, kept, State.passTicks, Ctb.passTicks_of_within within]
  rfl

end

/-- Settles O41. -/
theorem lineEventsAndBadFrames : Obligations.LineEventsAndBadFrames := by
  unfold Obligations.LineEventsAndBadFrames
  refine ⟨fun s elapsed ready apart within => ⟨?_, fun idle => ?_, fun busy => ?_⟩,
    fun s hears => ⟨fun foreign => ?_, fun own => ?_⟩, fun c s frame => exec_of_not_assembling frame⟩
  · rw [exec_lineIdle, State.taking_of_ready ready, State.lineIdle, if_neg (by simp [apart])]
  · have goes : (s.passTicks elapsed).lnk.lineIdle = true := idle
    rw [exec_startBitSeen, State.taking_of_ready ready, State.otherStartBit, if_pos goes]
    exact congrArg Host.Outcome.next (State.startBit_passTicks within s.lnk)
  · rw [exec_dominantBitNotIdle, State.taking_of_ready ready, State.dominantNotIdle, if_neg (by simp [busy, apart])]
  · rw [exec_badFrame, State.taking_of_ready hears.1, State.badFrame, State.heard_of_assembling hears.2,
      if_neg (by simp [foreign])]
    rfl
  · rw [exec_ownAbortedFrameDiscarded, State.taking_of_ready hears.1, if_pos own, State.heard_of_assembling hears.2]
    rfl

/-! ### O42 -/

section
variable {now : Tick} {e : TxEntry} {rest : List TxEntry}

theorem dropStale_of_frame {a : NodeNumber} {p : Payload} (item : e.item = .frame a p) :
    dropStale now (e :: rest) = (e :: rest, false) := by
  simp [dropStale, item]

theorem dropStale_of_mark {i : Tick} (item : e.item = .mark i) (age : (now - i).toNat ≤ 65535) :
    dropStale now (e :: rest) = (e :: rest, false) := by
  have young : ¬ markAge now i > 65535 := Nat.not_lt.2 age
  simp [dropStale, item, young]

theorem dropStale_of_stale {i : Tick} (item : e.item = .mark i) (age : 65535 < (now - i).toNat) :
    dropStale now (e :: rest) = ((dropStale now rest).1, true) := by
  have old : markAge now i > 65535 := age
  simp [dropStale, item, old]

end

section
variable {s : State}

/-- LNK when it sends an entry (R97, R105, R110). -/
def Lnk.sending (l : Lnk) (e : TxEntry) (p : Payload) (rest : List TxEntry) (stale : Bool) : Lnk :=
  { l with queue := rest, shifter := some { entry := e, payload := p, discard := false }
           markStale := l.markStale || stale }

/-- On an idle line the first entry left after the stale MARKs goes into the shifter (R97, R105). -/
theorem State.transmitStart_of_entry (idle : s.lnk.lineIdle = true) (free : s.lnk.shifter = none) {e : TxEntry}
    {rest : List TxEntry} {stale : Bool} (left : dropStale s.ctb.tick s.lnk.queue = (e :: rest, stale)) :
    s.transmitStart = (s.setLnk (s.lnk.sending e (s.filled e) rest stale)).startBit := by
  have goes : (s.lnk.lineIdle && s.lnk.shifter.isNone) = true := by simp [idle, free]
  simp only [State.transmitStart, if_pos goes, left]
  rfl

theorem State.transmitStart_of_nothing (idle : s.lnk.lineIdle = true) (free : s.lnk.shifter = none) {stale : Bool}
    (left : dropStale s.ctb.tick s.lnk.queue = ([], stale)) :
    s.transmitStart = s.setLnk { s.lnk with queue := [], markStale := s.lnk.markStale || stale } := by
  have goes : (s.lnk.lineIdle && s.lnk.shifter.isNone) = true := by simp [idle, free]
  simp only [State.transmitStart, if_pos goes, left]

theorem State.filled_of_frame {e : TxEntry} {a : NodeNumber} {p : Payload} (item : e.item = .frame a p) :
    s.filled e = p := by
  simp [State.filled, item]

theorem State.filled_of_mark {e : TxEntry} {i : Tick} (item : e.item = .mark i) :
    s.filled e = .mark { age := BitVec.ofNat 16 (markAge s.ctb.tick i), lock := s.lck.state, seq := s.seq.state
                         out := s.syn.out, slot := s.seq.pointer } := by
  simp [State.filled, item]

variable {elapsed : Nat}

theorem State.passTicks_tick (within : s.ctb.divider + elapsed ≤ 1599) :
    (s.passTicks elapsed).ctb.tick = s.ctb.tick + BitVec.ofNat 32 elapsed := by
  rw [State.passTicks, State.setCtb_ctb, Ctb.passTicks_of_within within]

/-- TRANSMIT_START of an entry (R95, R97, R110). -/
theorem exec_transmitStart_of_entry (ready : s.ready) (within : s.ctb.divider + elapsed ≤ 1599)
    (idle : s.lnk.lineIdle = true) (free : s.lnk.shifter = none) {e : TxEntry} {rest : List TxEntry} {stale : Bool}
    {p : Payload} (left : dropStale (s.ctb.tick + BitVec.ofNat 32 elapsed) s.lnk.queue = (e :: rest, stale))
    (fills : (s.passTicks elapsed).filled e = p) :
    exec (.transmitStart elapsed) s = .next (s.startBitAfter elapsed (s.lnk.sending e p rest stale)) := by
  rw [← State.passTicks_tick within] at left
  rw [exec_transmitStart, State.taking_of_ready ready,
    State.transmitStart_of_entry (s := s.passTicks elapsed) idle free left, fills]
  exact congrArg Host.Outcome.next (State.startBit_passTicks within _)

theorem exec_transmitStart_of_nothing (ready : s.ready) (within : s.ctb.divider + elapsed ≤ 1599)
    (idle : s.lnk.lineIdle = true) (free : s.lnk.shifter = none) {stale : Bool}
    (left : dropStale (s.ctb.tick + BitVec.ofNat 32 elapsed) s.lnk.queue = ([], stale)) :
    exec (.transmitStart elapsed) s
      = .next ((s.passTicks elapsed).setLnk { s.lnk with queue := [], markStale := s.lnk.markStale || stale }) := by
  rw [← State.passTicks_tick within] at left
  rw [exec_transmitStart, State.taking_of_ready ready,
    State.transmitStart_of_nothing (s := s.passTicks elapsed) idle free left]
  rfl

end

/-- Settles O42, by what stands at the head of the queue. -/
theorem transmitStartTakesTheFirstEntry : Obligations.TransmitStartTakesTheFirstEntry := by
  unfold Obligations.TransmitStartTakesTheFirstEntry
  intro s elapsed ready within idle free now sends
  refine ⟨fun e a p rest queue item => ?_, fun e i rest queue item age => ?_, fun e i queue item age => ?_,
    fun e i e' a p rest queue item age item' => ?_, fun queue => ?_⟩
  · exact exec_transmitStart_of_entry ready within idle free (by rw [queue]; exact dropStale_of_frame item)
      (State.filled_of_frame item)
  · refine exec_transmitStart_of_entry ready within idle free (by rw [queue]; exact dropStale_of_mark item age) ?_
    rw [State.filled_of_mark item, State.passTicks_tick within]
    rfl
  · refine ⟨_, exec_transmitStart_of_nothing ready within idle free (stale := true)
      (by rw [queue, dropStale_of_stale item age]; rfl), by simp, ?_⟩
    simp [State.onlyChanges_iff, State.passTicks]
  · exact exec_transmitStart_of_entry ready within idle free (stale := true)
      (by rw [queue, dropStale_of_stale item age, dropStale_of_frame item']) (State.filled_of_frame item')
  · refine ⟨_, exec_transmitStart_of_nothing ready within idle free (stale := false) (by rw [queue]; rfl), ?_⟩
    have same : { s.lnk with queue := [], markStale := s.lnk.markStale || false } = s.lnk := by
      rw [Bool.or_false, ← queue]
    rw [same]
    simp [State.onlyChanges_iff, State.passTicks]

/-! ### O44 -/

namespace Lnk
variable {l : Lnk} {x : Shifter}

theorem giveBack_of_second (loaded : l.shifter = some x) (mark : x.entry.isMark = true)
    (waits : ∃ e ∈ l.queue, e.isMark = true) : l.giveBack = { l with shifter := none, markReplaced := true } := by
  have second : (x.entry.isMark && l.queue.any TxEntry.isMark) = true := by simpa [mark] using waits
  simp only [giveBack, loaded, if_pos second]

theorem giveBack_of_no_second (loaded : l.shifter = some x)
    (single : x.entry.isMark = false ∨ ∀ e ∈ l.queue, e.isMark = false) :
    l.giveBack = if x.discard then { l with shifter := none }
      else ({ l with shifter := none } : Lnk).enter txReinsert x.entry := by
  have second : ¬ (x.entry.isMark && l.queue.any TxEntry.isMark) = true := by
    obtain other | none := single
    · simp [other]
    · simpa using fun _ => none
  simp only [giveBack, loaded, if_neg second]

/-- The shifter is empty once its frame has been given back. -/
theorem giveBack_shifter (loaded : l.shifter = some x) : l.giveBack.shifter = none := by
  simp only [giveBack, loaded]
  split_ifs
  · rfl
  · rfl
  · exact enter_shifter ..

/-- What a removal leaves of the queue (R109). -/
theorem mem_remove_queue {p : Payload → Bool} {e : TxEntry} :
    e ∈ (l.remove p).queue ↔ e ∈ l.queue ∧ ∀ a c, e.item = .frame a c → p c = false := by
  rw [remove, List.mem_filter]
  refine and_congr_right fun _ => ?_
  cases item : e.item with
  | mark i => simp
  | frame a c =>
    refine ⟨fun kept a' c' same => ?_, fun other => by simpa using other a c rfl⟩
    obtain ⟨-, rfl⟩ := TxItem.frame.inj same
    simpa using kept

theorem remove_of_free {p : Payload → Bool} (free : l.shifter = none) :
    l.remove p = { l with queue := (l.remove p).queue } := by
  have none : l.shifter.map (fun x => if p x.payload then { x with discard := true } else x) = l.shifter := by
    rw [free]
    rfl
  rw [remove, none]

theorem remove_of_loaded {p : Payload → Bool} (loaded : l.shifter = some x) :
    l.remove p = { l with queue := (l.remove p).queue
                          shifter := some { x with discard := x.discard || p x.payload } } := by
  have marked : l.shifter.map (fun x => if p x.payload then { x with discard := true } else x)
      = some { x with discard := x.discard || p x.payload } := by
    rw [loaded, Option.map_some]
    cases p x.payload with
    | false => rw [Bool.or_false]; rfl
    | true => rw [Bool.or_true]; rfl
  rw [remove, marked]

end Lnk

/-- Settles O44: the return of a frame by what waits in the queue, and the removal. -/
theorem abortedFramesReturnToTheQueue : Obligations.AbortedFramesReturnToTheQueue := by
  unfold Obligations.AbortedFramesReturnToTheQueue
  refine ⟨fun s x ready loaded => ?_, fun l p => ⟨List.filter_sublist, fun e => Lnk.mem_remove_queue,
    Lnk.remove_of_free, fun x => Lnk.remove_of_loaded⟩⟩
  have loses : exec .arbitrationLoss s = .next (s.setLnk s.lnk.giveBack) := by
    rw [exec_arbitrationLoss, State.taking_of_ready ready]
  have collides : exec .collision s = .next (s.setLnk
      { s.lnk.giveBack with collisions := satAdd 255 s.lnk.giveBack.collisions 1, ownAborted := true }) := by
    rw [exec_collision, State.taking_of_ready ready, State.collide, if_pos (by simp [loaded])]
  refine ⟨_, _, loses, collides, Lnk.giveBack_shifter loaded,
    Lnk.giveBack_shifter loaded, rfl, Lnk.giveBack_collisions _, ?_, rfl, s.onlyChanges_setLnk _,
    s.onlyChanges_setLnk _, fun mark waits => ?_, fun other discard => ?_, fun kept single ordered room => ?_,
    fun kept single ordered full => ⟨?_, fun ⟨e, queued, less⟩ => ?_, fun least => ?_⟩⟩
  · rw [State.setLnk_lnk, Lnk.giveBack_collisions]
    rfl
  all_goals rw [State.setLnk_lnk]
  · rw [Lnk.giveBack_of_second loaded mark waits]
    exact ⟨rfl, rfl⟩
  · rw [Lnk.giveBack_of_no_second loaded (.inl other), if_pos discard]
  all_goals
    have classes : s.lnk.queue.Pairwise (·.cls ≤ ·.cls) :=
      ((Lnk.ordered_iff _).1 ordered).1.sorted.imp TxEntry.before.cls_le
    rw [Lnk.giveBack_of_no_second loaded single, if_neg (by simp [kept])]
  · rw [Lnk.enter_of_room (l := { s.lnk with shifter := none }) room]
    exact ⟨txReinsert_eq_filter classes _, rfl⟩
  · rw [Lnk.enter, if_neg (Nat.not_lt.2 full.ge)]
    split_ifs <;> rfl
  · obtain ⟨q, z, split⟩ := s.lnk.queue.eq_nil_or_concat'.resolve_left (List.ne_nil_of_mem queued)
    have front : q.Pairwise (·.cls ≤ ·.cls) := by
      rw [split] at classes
      exact (List.pairwise_append.1 classes).1
    have greatest : ∀ y ∈ q, y.cls ≤ z.cls := by
      rw [split, List.pairwise_append] at classes
      exact fun y hy => classes.2.2 y hy z (List.mem_singleton_self z)
    have last : e.cls ≤ z.cls := by
      rw [split, List.mem_append, List.mem_singleton] at queued
      obtain queued | rfl := queued
      · exact greatest e queued
      · exact le_rfl
    rw [Lnk.enter_of_displacing (l := { s.lnk with shifter := none }) full split greatest (less.trans_le last), split,
      List.dropLast_concat]
    exact txReinsert_eq_filter front _
  · rw [Lnk.enter_of_lost (l := { s.lnk with shifter := none }) full least]

end Sys2Proof.Machine
end

section
/-! PROOFS. The bytes of the station link, field by field: what is written is read back (R96, R100, R116). -/

namespace Sys2Proof.Machine

/-! ### Fields -/

/-- The two bytes of a word, put together again. -/
theorem word_append (x : Word16) : x.extractLsb' 8 8 ++ x.extractLsb' 0 8 = x := by
  rw [BitVec.extractLsb'_append_extractLsb'_eq_extractLsb' (by omega), BitVec.extractLsb'_eq_self]

theorem wide_append (x : BitVec 32) :
    x.extractLsb' 24 8 ++ x.extractLsb' 16 8 ++ x.extractLsb' 8 8 ++ x.extractLsb' 0 8 = x := by
  rw [BitVec.extractLsb'_append_extractLsb'_eq_extractLsb' (by omega),
    BitVec.extractLsb'_append_extractLsb'_eq_extractLsb' (by omega),
    BitVec.extractLsb'_append_extractLsb'_eq_extractLsb' (by omega), BitVec.extractLsb'_eq_self]

/-- A reader takes back from the front of the bytes what a writer has put there. -/
def ReadsBack {α : Type} (p : List Byte → Option (α × List Byte)) (f : α → List Byte) : Prop :=
  ∀ a rest, p (f a ++ rest) = some (a, rest)

theorem takeByte_cons (b : Byte) (rest : List Byte) : takeByte (b :: rest) = some (b, rest) := rfl

theorem takeByte_reads : ReadsBack takeByte fun b => [b] := fun _ _ => rfl

theorem takeWord_reads : ReadsBack takeWord wordBytes := fun x rest => by
  rw [wordBytes, List.cons_append, List.cons_append, List.nil_append, takeWord, word_append]

theorem takeWide_reads : ReadsBack takeWide wideBytes := fun x rest => by
  rw [wideBytes, List.cons_append, List.cons_append, List.cons_append, List.cons_append, List.nil_append, takeWide,
    wide_append]

theorem takeJoint_reads : ReadsBack takeJoint fun j => [j.tag, j.mask, j.timeout] := fun _ _ => rfl

theorem takeOverlay_reads : ReadsBack takeOverlay overlayBytes := fun e rest => by
  have slot : (e.slot ++ e.action).extractLsb' 4 4 = e.slot := BitVec.extractLsb'_append_eq_left
  have action : (e.slot ++ e.action).extractLsb' 0 4 = e.action := BitVec.extractLsb'_append_eq_right
  simp [takeOverlay, overlayBytes, takeByte_cons, takeWide_reads e.wide, takeWord_reads e.narrow, slot, action]

theorem takeProfileEntry_reads :
    ReadsBack takeProfileEntry fun e => e.order :: (wordBytes e.amplitude ++ wordBytes e.phase) := fun e rest => by
  simp [takeProfileEntry, takeByte_cons, takeWord_reads e.amplitude, takeWord_reads e.phase]

/-- An optional part is read back when its presence bit says what it is. -/
theorem takePart_reads {α : Type} {p : List Byte → Option (α × List Byte)} {f : α → List Byte} (reads : ReadsBack p f)
    (o : Option α) (rest : List Byte) : takePart o.isSome p (partBytes f o ++ rest) = some (o, rest) := by
  cases o with
  | none => rfl
  | some a => simp [takePart, partBytes, reads a rest]

/-- The same, where the presence bit stands in a word. -/
theorem takePart_of_bit {α : Type} {bit : Bool} {p : List Byte → Option (α × List Byte)} {f : α → List Byte}
    {o : Option α} (present : bit = o.isSome) (reads : ReadsBack p f) (rest : List Byte) :
    takePart bit p (partBytes f o ++ rest) = some (o, rest) := by
  rw [present, takePart_reads reads]

/-- A reader that has read hands its value and the rest of the bytes on. -/
theorem take_then {α γ : Type} {read : Option (α × List Byte)} {a : α} {l : List Byte}
    {next : α × List Byte → Option γ} (h : read = some (a, l)) : (read >>= next) = next (a, l) := by
  rw [h]
  rfl

/-- A list of as many entries as the count says is read back. -/
theorem takeMany_reads {α : Type} {p : List Byte → Option (α × List Byte)} {f : α → List Byte} (reads : ReadsBack p f)
    (l : List α) (rest : List Byte) : takeMany p l.length ((l.map f).flatten ++ rest) = some (l, rest) := by
  induction l with
  | nil => rfl
  | cons a l ih => simp [takeMany, List.append_assoc, reads a, ih]

theorem whole_reads {α : Type} {p : List Byte → Option (α × List Byte)} {l : List Byte} {a : α}
    (reads : p l = some (a, [])) : whole p l = some a := by
  rw [whole, reads]

/-! ### The step record image -/

section
variable (r : RawRecord)

/-- The bits of an image's first byte. -/
theorem imageByte0_bits (outcome : Bool) :
    (imageByte0 r outcome).getLsbD 7 = r.live ∧ (imageByte0 r outcome).getLsbD 6 = r.wrap
      ∧ (imageByte0 r outcome).extractLsb' 4 2 = r.kind ∧ (imageByte0 r outcome).getLsbD 3 = r.holdAfter
      ∧ (imageByte0 r outcome).getLsbD 2 = r.notify ∧ (imageByte0 r outcome).getLsbD 1 = outcome
      ∧ (imageByte0 r outcome).getLsbD 0 = r.unit := by
  have bits : ∀ (a b c d e f : Bool) (k : BitVec 2),
      let x : BitVec 8 := BitVec.ofBool a ++ BitVec.ofBool b ++ k ++ BitVec.ofBool c ++ BitVec.ofBool d
        ++ BitVec.ofBool e ++ BitVec.ofBool f
      x.getLsbD 7 = a ∧ x.getLsbD 6 = b ∧ x.extractLsb' 4 2 = k ∧ x.getLsbD 3 = c ∧ x.getLsbD 2 = d
        ∧ x.getLsbD 1 = e ∧ x.getLsbD 0 = f := by decide
  exact bits r.live r.wrap r.holdAfter r.notify outcome r.unit r.kind

/-- The bits of an image's presence word. -/
theorem presenceWord_bits (reason : BitVec 2) :
    (presenceWord r reason).getLsbD 15 = r.level.isSome ∧ (presenceWord r reason).getLsbD 14 = r.frequency.isSome
      ∧ (presenceWord r reason).getLsbD 13 = r.startAngle.isSome
      ∧ (presenceWord r reason).getLsbD 12 = r.duration.isSome ∧ (presenceWord r reason).getLsbD 11 = r.await.isSome
      ∧ (presenceWord r reason).getLsbD 10 = r.joint.isSome ∧ (presenceWord r reason).getLsbD 9 = r.tripPolicy.isSome
      ∧ (presenceWord r reason).getLsbD 8 = r.currentLimit.isSome
      ∧ (presenceWord r reason).getLsbD 7 = r.tripCycles.isSome ∧ (presenceWord r reason).getLsbD 6 = r.profile.isSome
      ∧ (presenceWord r reason).getLsbD 5 = r.markers.isSome := by
  simp only [presenceWord, BitVec.getLsbD_append]
  simp

theorem presenceWord_entries (few : r.overlays.length ≤ 7) (reason : BitVec 2) :
    ((presenceWord r reason).extractLsb' 0 3).toNat = r.overlays.length := by
  have low : (presenceWord r reason).extractLsb' 0 3 = BitVec.ofNat 3 r.overlays.length :=
    BitVec.extractLsb'_append_eq_right
  rw [low, BitVec.toNat_ofNat, Nat.mod_eq_of_lt (by omega)]

/-- A marker part is one byte, its high bits clear. -/
theorem takePart_markers (rest : List Byte) :
    takePart r.markers.isSome takeByte (partBytes (fun m => [(0 : BitVec 4) ++ m]) r.markers ++ rest)
      = some (r.markers.map fun m => (0 : BitVec 4) ++ m, rest) := by
  cases r.markers <;> rfl

/-- An image is read back, with whatever follows its overlay entries (R116). -/
theorem takeImage_imageBytes (few : r.overlays.length ≤ 7) (outcome : Option StepOutcome) :
    takeImage (imageBytes r outcome) = some (r, outcome.isSome, partBytes outcomeBytes outcome) := by
  obtain ⟨live, wrap, kind, hold, notify, ends, unit⟩ := imageByte0_bits r outcome.isSome
  obtain ⟨reason, said⟩ : ∃ reason, reason = (outcome.map fun o => codeOf endReasons 2 o.endReason).getD 0 := ⟨_, rfl⟩
  obtain ⟨level, frequency, angle, duration, await, joint, policy, limit, cycles, profile, markers⟩ :=
    presenceWord_bits r reason
  have entries := presenceWord_entries r few reason
  have settings : (r.markers.map fun m => (0 : BitVec 4) ++ m).map (fun m => m.extractLsb' 0 4) = r.markers := by
    have low : ∀ m : BitVec 4, ((0 : BitVec 4) ++ m).extractLsb' 0 4 = m := fun m => BitVec.extractLsb'_append_eq_right
    simp only [Option.map_map, Function.comp_def, low, Option.map_id']
  unfold takeImage imageBytes imageParts
  simp only [List.append_assoc, ← said]
  refine (take_then (takeByte_cons _ _)).trans ?_
  refine (take_then (takeByte_cons _ _)).trans ?_
  refine (take_then (takeWord_reads _ _)).trans ?_
  refine (take_then (takeWord_reads _ _)).trans ?_
  refine (take_then (takePart_of_bit level takeWord_reads _)).trans ?_
  refine (take_then (takePart_of_bit frequency takeWord_reads _)).trans ?_
  refine (take_then (takePart_of_bit angle takeWord_reads _)).trans ?_
  refine (take_then (takePart_of_bit duration takeWord_reads _)).trans ?_
  refine (take_then (takePart_of_bit await takeByte_reads _)).trans ?_
  refine (take_then (takePart_of_bit joint takeJoint_reads _)).trans ?_
  refine (take_then (takePart_of_bit policy takeByte_reads _)).trans ?_
  refine (take_then (takePart_of_bit limit takeWord_reads _)).trans ?_
  refine (take_then (takePart_of_bit cycles takeByte_reads _)).trans ?_
  refine (take_then (takePart_of_bit profile takeByte_reads _)).trans ?_
  refine (take_then ((congrArg (takePart · takeByte _) markers).trans (takePart_markers r _))).trans ?_
  refine (take_then ((congrArg (takeMany takeOverlay · _) entries).trans (takeMany_reads takeOverlay_reads _ _))).trans ?_
  dsimp only
  rw [live, wrap, kind, hold, notify, ends, unit, settings]

end

end Sys2Proof.Machine
end

section
/-! PROOFS. A frame's bytes are read back as the frame, and a request's as the request: O58. -/

namespace Sys2Proof.Machine

/-! ### The frame -/

/-- The payload of a frame stands behind its four leading bytes. -/
theorem payload_of_bytes (a k d n : Byte) (payload check : List Byte) :
    (List.range payload.length).map (fun i => (a :: k :: d :: n :: (payload ++ check)).getD (4 + i) 255) = payload := by
  refine List.ext_getElem (by simp) fun i inside _ => ?_
  have within : i < payload.length := by simpa using inside
  rw [List.getElem_map, List.getElem_range, show 4 + i = i + 1 + 1 + 1 + 1 by omega]
  simp [List.getElem?_append_left within, within]

/-- The check stands behind the payload. -/
theorem check_of_bytes (a k d n : Byte) (payload : List Byte) (high low : Byte) (i : Nat) :
    (a :: k :: d :: n :: (payload ++ [high, low])).getD (4 + payload.length + i) 255
      = [high, low].getD i 255 := by
  rw [show 4 + payload.length + i = payload.length + i + 1 + 1 + 1 + 1 by omega]
  simp [List.getElem?_append_right]

/-- A frame's bytes, at a station that hears it, are a good frame with its payload (R96, R100). -/
theorem readFrame_frameBytes (own : Station) (cls : BitVec 2) (sender : NodeNumber) (kind : Byte)
    (addressee : NodeNumber) {payload : List Byte} (short : payload.length ≤ 64) :
    readFrame own (frameBytes cls sender kind addressee payload)
      = readGoodFrame own (cls ++ sender ++ (0 : BitVec 2)) kind (addressee ++ (0 : BitVec 4)) payload := by
  obtain ⟨a, first⟩ : ∃ a : Byte, a = cls ++ sender ++ (0 : BitVec 2) := ⟨_, rfl⟩
  obtain ⟨d, third⟩ : ∃ d : Byte, d = addressee ++ (0 : BitVec 4) := ⟨_, rfl⟩
  obtain ⟨check, checked⟩ : ∃ check, check = crc (coveredBytes cls sender kind addressee payload) := ⟨_, rfl⟩
  obtain ⟨bytes, sent⟩ : ∃ bytes, bytes = frameBytes cls sender kind addressee payload := ⟨_, rfl⟩
  have layout : bytes = a :: kind :: d :: BitVec.ofNat 8 payload.length
      :: (payload ++ [check.extractLsb' 8 8, check.extractLsb' 0 8]) := by
    rw [sent, frameBytes, ← checked, first, third]
    rfl
  have length : (BitVec.ofNat 8 payload.length).toNat = payload.length :=
    (BitVec.toNat_ofNat ..).trans (Nat.mod_eq_of_lt (by omega))
  have payloads : (List.range payload.length).map (fun i => bytes.getD (4 + i) 255) = payload := by
    rw [layout]
    exact payload_of_bytes ..
  have high : bytes.getD (4 + payload.length) 255 = check.extractLsb' 8 8 := by
    rw [layout]
    exact check_of_bytes _ _ _ _ payload _ _ 0
  have low : bytes.getD (5 + payload.length) 255 = check.extractLsb' 0 8 := by
    rw [layout, show 5 + payload.length = 4 + payload.length + 1 by omega]
    exact check_of_bytes _ _ _ _ payload _ _ 1
  have front : bytes.getD 0 255 = a ∧ bytes.getD 1 255 = kind ∧ bytes.getD 2 255 = d
      ∧ bytes.getD 3 255 = BitVec.ofNat 8 payload.length := by
    rw [layout]
    exact ⟨rfl, rfl, rfl, rfl⟩
  obtain ⟨byte0, byte1, byte2, byte3⟩ := front
  have covered : crc (a :: kind :: d :: BitVec.ofNat 8 payload.length :: payload) = check := by
    rw [checked, coveredBytes, first, third]
  rw [← sent, ← first, ← third]
  simp only [readFrame, length, payloads, high, low, byte0, byte1, byte2, byte3, covered, word_append,
    if_neg (Nat.not_lt.2 short), if_pos]

/-- The fields of an arbitration byte (R96). -/
theorem arbitration_fields (cls : BitVec 2) (sender : NodeNumber) :
    (cls ++ sender ++ (0 : BitVec 2)).extractLsb' 2 4 = sender ∧ (cls ++ sender ++ (0 : BitVec 2)).extractLsb' 6 2 = cls
      ∧ (cls ++ sender ++ (0 : BitVec 2)).extractLsb' 0 2 = 0 := by
  revert cls sender
  decide

theorem addressee_field (addressee : NodeNumber) : (addressee ++ (0 : BitVec 4)).extractLsb' 4 4 = addressee :=
  BitVec.extractLsb'_append_eq_left

/-! ### The requests -/

theorem stationClass_requestCode (k : RequestKind) : stationClass (requestCode k).toNat = none := by
  cases k <;> rfl

theorem requestOf_requestCode (k : RequestKind) : requestOf (requestCode k).toNat = some k := by
  cases k <;> rfl

theorem ne_all (own : Station) : own.setWidth 4 ≠ (15 : NodeNumber) := by
  revert own
  decide

/-- A readable request of a service node is heard as that request (R96, R103). -/
theorem readFrame_requestFrame (own : Station) {req : Requester} {kind : RequestKind} {payload : List Byte} {i : Instr}
    (node : req.wellFormed = true) (short : payload.length ≤ 64) (reads : readRequest req kind payload = some i) :
    readFrame own (requestFrame own req kind payload) = i := by
  obtain ⟨sender, cls, zero⟩ := arbitration_fields 3 req.node
  obtain ⟨lowest, highest⟩ : 8 ≤ req.node.toNat ∧ req.node.toNat ≤ 14 := by simpa [Requester.wellFormed] using node
  obtain ⟨target, aimed⟩ : ∃ target : NodeNumber, target = if req.toAll then 15 else own.setWidth 4 := ⟨_, rfl⟩
  have meant : (target = own.setWidth 4 ∨ target = 15) ∧ decide (target = 15) = req.toAll := by
    rw [aimed]
    cases req.toAll with
    | true => exact ⟨.inr rfl, rfl⟩
    | false => exact ⟨.inl rfl, decide_eq_false (ne_all own)⟩
  obtain ⟨ours, all⟩ := meant
  have same : ({ node := req.node, toAll := decide (target = 15) } : Requester) = req := by rw [all]
  rw [requestFrame, ← aimed, readFrame_frameBytes own _ _ _ _ short]
  simp only [readGoodFrame, sender, cls, zero, addressee_field, stationClass_requestCode, requestOf_requestCode]
  have accepted : (decide ((3 : BitVec 2).toNat = 3) && decide (8 ≤ req.node.toNat) && decide (req.node.toNat ≤ 14)
      && (decide (target = own.setWidth 4) || decide (target = 15))) = true := by
    simpa [lowest, highest] using ours
  simp only [accepted, same, reads, ne_eq, not_true_eq_false, if_false, if_true, Option.getD_some]

theorem takeSetup_reads (v : RawSetup) : takeSetup (wordBytes v.pNom ++ (wordBytes v.clip ++ (wordBytes v.limit
    ++ (wordBytes v.dSafe ++ (v.foldStep :: v.policy :: wordBytes v.frequency))))) = some (v, []) := by
  unfold takeSetup
  refine (take_then (takeWord_reads _ _)).trans ?_
  refine (take_then (takeWord_reads _ _)).trans ?_
  refine (take_then (takeWord_reads _ _)).trans ?_
  refine (take_then (takeWord_reads _ _)).trans ?_
  refine (take_then (takeByte_cons _ _)).trans ?_
  refine (take_then (takeByte_cons _ _)).trans ?_
  refine (take_then ((congrArg takeWord (List.append_nil _).symm).trans (takeWord_reads _ _))).trans ?_
  rfl

/-- The image that a STEP_WRITE carries is read back (R116). -/
theorem readImage_imageBytes {r : RawRecord} (few : r.overlays.length ≤ 7) :
    readImage (imageBytes r none) = some r := by
  rw [readImage, takeImage_imageBytes r few none]
  rfl

theorem readRequest_profileWrite (req : Requester) (index count : Byte) {entries : List ProfileEntry}
    (fits : profileEntriesWellFormed count entries = true) :
    readRequest req .profileWrite (index :: count
        :: (entries.map fun e => e.order :: (wordBytes e.amplitude ++ wordBytes e.phase)).flatten)
      = some (.profileWrite req index count entries) := by
  have all := takeMany_reads takeProfileEntry_reads entries []
  rw [List.append_nil] at all
  by_cases few : count.toNat ≤ 12
  · have length : entries.length = count.toNat := by simpa [profileEntriesWellFormed, few] using fits
    rw [length] at all
    simp only [readRequest, if_neg (Nat.not_lt.2 few), whole_reads all, Option.map_some]
  · have none : entries = [] := by simpa [profileEntriesWellFormed, few] using fits
    subst none
    simp only [readRequest, if_pos (Nat.not_le.1 few)]

/-- Settles O58: each request's payload is read by its layout. -/
theorem requestsAreReadAsSent : Obligations.RequestsAreReadAsSent := by
  unfold Obligations.RequestsAreReadAsSent
  intro own i req kind payload fits sent short
  cases i with
  | setup r v =>
    obtain ⟨rfl, rfl, rfl⟩ : r = req ∧ RequestKind.setup = kind ∧ _ := by simpa [requestPayload] using sent
    refine readFrame_requestFrame own fits short ?_
    rw [readRequest, whole_reads (takeSetup_reads v)]
    rfl
  | stepWrite r slot raw =>
    obtain ⟨rfl, rfl, rfl⟩ : r = req ∧ RequestKind.stepWrite = kind ∧ slot :: imageBytes raw none = payload := by
      simpa [requestPayload] using sent
    obtain ⟨node, record⟩ : r.wellFormed = true ∧ raw.wellFormed = true := by simpa [Instr.wellFormed] using fits
    refine readFrame_requestFrame own node short ?_
    rw [readRequest, readImage_imageBytes (by simpa [RawRecord.wellFormed] using record)]
    rfl
  | profileWrite r index count entries =>
    obtain ⟨rfl, rfl, rfl⟩ : r = req ∧ RequestKind.profileWrite = kind ∧ _ := by simpa [requestPayload] using sent
    obtain ⟨node, list⟩ : r.wellFormed = true ∧ profileEntriesWellFormed count entries = true := by
      simpa [Instr.wellFormed] using fits
    exact readFrame_requestFrame own node short (readRequest_profileWrite r index count list)
  | run r start =>
    cases start with
    | none =>
      obtain ⟨rfl, rfl, rfl⟩ : r = req ∧ RequestKind.run = kind ∧ [] = payload := by simpa [requestPayload] using sent
      exact readFrame_requestFrame own fits short rfl
    | some slot =>
      obtain ⟨rfl, rfl, rfl⟩ : r = req ∧ RequestKind.run = kind ∧ [slot] = payload := by
        simpa [requestPayload] using sent
      exact readFrame_requestFrame own fits short rfl
  | stepRead r slot =>
    obtain ⟨rfl, rfl, rfl⟩ : r = req ∧ RequestKind.stepRead = kind ∧ [slot] = payload := by
      simpa [requestPayload] using sent
    exact readFrame_requestFrame own fits short rfl
  | suspend r =>
    obtain ⟨rfl, rfl, rfl⟩ : r = req ∧ RequestKind.suspend = kind ∧ [] = payload := by simpa [requestPayload] using sent
    exact readFrame_requestFrame own fits short rfl
  | release r =>
    obtain ⟨rfl, rfl, rfl⟩ : r = req ∧ RequestKind.release = kind ∧ [] = payload := by simpa [requestPayload] using sent
    exact readFrame_requestFrame own fits short rfl
  | abort r =>
    obtain ⟨rfl, rfl, rfl⟩ : r = req ∧ RequestKind.abort = kind ∧ [] = payload := by simpa [requestPayload] using sent
    exact readFrame_requestFrame own fits short rfl
  | clear r =>
    obtain ⟨rfl, rfl, rfl⟩ : r = req ∧ RequestKind.clear = kind ∧ [] = payload := by simpa [requestPayload] using sent
    exact readFrame_requestFrame own fits short rfl
  | query r =>
    obtain ⟨rfl, rfl, rfl⟩ : r = req ∧ RequestKind.query = kind ∧ [] = payload := by simpa [requestPayload] using sent
    exact readFrame_requestFrame own fits short rfl
  | _ => exact nomatch sent

end Sys2Proof.Machine
end

section
/-! PROOFS. The frames that stations send are read back as the events of their kinds: O59. -/

namespace Sys2Proof.Machine

/-! ### The codes of a payload -/

/-- The four codes of two bits in a byte (R116). -/
theorem pairs_of_byte (a b c d : BitVec 2) :
    (a ++ b ++ c ++ d).extractLsb' 6 2 = a ∧ (a ++ b ++ c ++ d).extractLsb' 4 2 = b
      ∧ (a ++ b ++ c ++ d).extractLsb' 2 2 = c ∧ (a ++ b ++ c ++ d).extractLsb' 0 2 = d := by
  revert a b c d
  decide

/-- The three codes of the byte that MARK and STATUS share (R116). -/
theorem states_of_byte (l : BitVec 2) (q : BitVec 4) (o : BitVec 2) :
    (l ++ q ++ o).extractLsb' 6 2 = l ∧ (l ++ q ++ o).extractLsb' 2 4 = q ∧ (l ++ q ++ o).extractLsb' 0 2 = o := by
  revert l q o
  decide

theorem nameOf_peerState (p : PeerState) : nameOf peerStates (codeOf peerStates 2 p) = some p :=
  nameOf_codeOf (by decide) (by cases p <;> decide)

theorem peerCodesNamed_codes (a b c d : PeerState) : peerCodesNamed (codeOf peerStates 2 a ++ codeOf peerStates 2 b
    ++ codeOf peerStates 2 c ++ codeOf peerStates 2 d) = true := by
  obtain ⟨first, second, third, fourth⟩ := pairs_of_byte (codeOf peerStates 2 a) (codeOf peerStates 2 b)
    (codeOf peerStates 2 c) (codeOf peerStates 2 d)
  rw [peerCodesNamed, first, second, third, fourth]
  simp only [nameOf_peerState, Option.isSome_some, Bool.and_self]

theorem readStates_statesByte (lock : LockState) (seq : SeqState) (out : OutState) :
    readStates (statesByte lock seq out) = some (lock, seq, out) := by
  have locks : nameOf lockStates (codeOf lockStates 2 lock) = some lock :=
    nameOf_codeOf (by decide) (by cases lock <;> decide)
  have seqs : nameOf seqStates (codeOf seqStates 4 seq) = some seq :=
    nameOf_codeOf (by decide) (by cases seq <;> decide)
  have outs : nameOf outStates (codeOf outStates 2 out) = some out :=
    nameOf_codeOf (by decide) (by cases out <;> decide)
  obtain ⟨first, second, third⟩ :=
    states_of_byte (codeOf lockStates 2 lock) (codeOf seqStates 4 seq) (codeOf outStates 2 out)
  rw [readStates, statesByte, first, second, third, locks, seqs, outs]
  rfl

/-! ### Each kind -/

/-- A STATUS is heard with its cause and sequencer state (R101, R113). -/
theorem readStatus_bytes (sender : Station) (y : Summary) :
    readStatus sender y.bytes = some (.statusReceived sender y.cause y.seq) := by
  have length : y.bytes.length = 30 := rfl
  have causes : nameOf statusCauses (codeOf statusCauses 8 y.cause) = some y.cause :=
    nameOf_codeOf (by decide) (by cases y.cause <;> decide)
  have faults : nameOf faultCauses (codeOf faultCauses 8 y.faultCause) = some y.faultCause :=
    nameOf_codeOf (by decide) (by cases y.faultCause <;> decide)
  have starts : nameOf startCauses (codeOf startCauses 8 y.startCause) = some y.startCause :=
    nameOf_codeOf (by decide) (by cases y.startCause <;> decide)
  have trips : nameOf statusTripCauses (codeOf statusTripCauses 8 y.tripCause) = some y.tripCause := by
    refine nameOf_codeOf (by decide) ?_
    cases y.tripCause with
    | none => decide
    | some c => cases c <;> decide
  have named := peerCodesNamed_codes
  have byte0 : y.bytes.getD 0 0 = codeOf statusCauses 8 y.cause := rfl
  have byte1 : y.bytes.getD 1 0 = statesByte y.lock y.seq y.out := rfl
  have byte2 : y.bytes.getD 2 0 = codeOf faultCauses 8 y.faultCause := rfl
  have byte3 : y.bytes.getD 3 0 = codeOf startCauses 8 y.startCause := rfl
  have byte25 : y.bytes.getD 25 0 = codeOf peerStates 2 y.peers[0].1 ++ codeOf peerStates 2 y.peers[1].1
      ++ codeOf peerStates 2 y.peers[2].1 ++ codeOf peerStates 2 y.peers[3].1 := rfl
  have byte26 : y.bytes.getD 26 0 = codeOf peerStates 2 y.peers[4].1 ++ codeOf peerStates 2 y.peers[5].1
      ++ codeOf peerStates 2 y.peers[6].1 ++ codeOf peerStates 2 y.peers[7].1 := rfl
  have byte29 : y.bytes.getD 29 0 = codeOf statusTripCauses 8 y.tripCause := rfl
  rw [readStatus, if_pos length, byte0, byte1, byte2, byte3, byte25, byte26, byte29, causes, readStates_statesByte,
    faults, starts, trips]
  simp only [named, Bool.and_self, if_true]
  rfl

theorem outcomeBytes_length (o : StepOutcome) : (outcomeBytes o).length = 10 := by
  have range : (rangeBytes o.cyclesMeasured o.lrms).length = 4 := by
    unfold rangeBytes
    cases o.lrms with
    | none => rfl
    | some l =>
      dsimp only
      split_ifs <;> rfl
  simp [outcomeBytes, range, natBytes, wordBytes]

/-- The image of a stored record fits its layout in a STEP_COPY (R101, R116). -/
theorem stepCopyFits_bytes (slot : Slot) {r : StepRecord} (few : r.overlays.length ≤ 4) :
    stepCopyFits (slot :: imageBytes r.toRaw r.outcome) = true := by
  have entries : r.toRaw.overlays.length ≤ 7 := by
    have same : r.toRaw.overlays.length = r.overlays.length := List.length_map _
    omega
  have policies : r.toRaw.tripPolicy.all (fun c => (nameOf tripPolicies c).isSome) = true := by
    have policy : ∀ p : TripPolicy, nameOf tripPolicies (codeOf tripPolicies 8 p) = some p := fun p =>
      nameOf_codeOf (by decide) (by cases p <;> decide)
    have sent : r.toRaw.tripPolicy = r.tripPolicy.map (codeOf tripPolicies 8) := rfl
    rw [sent]
    cases r.tripPolicy with
    | none => rfl
    | some p => simp [policy]
  rw [stepCopyFits, takeImage_imageBytes r.toRaw entries]
  dsimp only
  rw [policies]
  cases r.outcome with
  | none => rfl
  | some o => simp [partBytes, outcomeBytes_length]

/-- A payload is read by its kind's layout as the event of its kind (R101, R102). -/
theorem readStation_bytes (sender : Station) (p : Payload)
    (entries : ∀ slot r, p = .stepCopy slot r → r.overlays.length ≤ 4) :
    readStation sender p.kindCode.toNat p.bytes = some (p.heard sender) := by
  cases p with
  | trip cause slot =>
    have named : nameOf tripCauses (codeOf tripCauses 8 cause) = some cause :=
      nameOf_codeOf (by decide) (by cases cause <;> decide)
    exact congrArg (Option.map fun c => Instr.tripReceived sender c slot) named
  | withdraw tag reason =>
    have named : nameOf withdrawReasons (codeOf withdrawReasons 8 reason) = some reason :=
      nameOf_codeOf (by decide) (by cases reason <;> decide)
    exact congrArg (Option.map fun r => Instr.withdrawReceived sender tag r) named
  | mark m =>
    have age := word_append m.age
    have read : readStation sender 16 (Payload.mark m).bytes = (readStates (statesByte m.lock m.seq m.out)).map fun x =>
        Instr.markReceived sender { age := m.age.extractLsb' 8 8 ++ m.age.extractLsb' 0 8, lock := x.1, seq := x.2.1
                                    out := x.2.2, slot := m.slot } := rfl
    exact read.trans (by rw [readStates_statesByte, age]; rfl)
  | join tag mask => rfl
  | status y => exact readStatus_bytes sender y
  | result slot live o =>
    have length : (Payload.result slot live o).bytes.length = 12 := by
      simp [Payload.bytes, outcomeBytes_length]
    exact if_pos length
  | answer kind first code => rfl
  | stepCopy slot r => exact if_pos (stepCopyFits_bytes slot (entries slot r rfl))

theorem stationClass_kindCode (p : Payload) : stationClass p.kindCode.toNat = some p.cls := by
  cases p <;> rfl

/-- Settles O59: the frame, and its payload by its kind. -/
theorem stationFramesAreReadAsSent : Obligations.StationFramesAreReadAsSent := by
  unfold Obligations.StationFramesAreReadAsSent
  intro own sender x short entries
  obtain ⟨node, cls, zero⟩ := arbitration_fields (BitVec.ofNat 2 x.payload.cls) (sender.setWidth 4)
  have number : ∀ n : Station, (n.setWidth 4).toNat < 8 ∧ (n.setWidth 4).setWidth 3 = n := by decide
  have small : (BitVec.ofNat 2 x.payload.cls).toNat = x.payload.cls := by
    cases x.payload <;> rfl
  obtain ⟨below, back⟩ := number sender
  rw [Shifter.bytes, readFrame_frameBytes own _ _ _ _ short]
  have accepted : (decide ((BitVec.ofNat 2 x.payload.cls).toNat = x.payload.cls)
      && decide ((sender.setWidth 4).toNat < 8)) = true := by
    rw [small]
    simpa using below
  simp only [readGoodFrame, node, cls, zero, stationClass_kindCode, accepted, back, readStation_bytes sender x.payload
    entries, ne_eq, not_true_eq_false, if_false, if_true, Option.getD_some]

end Sys2Proof.Machine
end

section
/-! PROOFS. The frames that a sample event offers, and the start sample of a step (O20). -/

namespace Sys2Proof.Machine

/-! ### The start latch and the offers -/

theorem Lnk.enter_withLatch (l : Lnk) (k : StartLatch) (place : List TxEntry → TxEntry → List TxEntry) (e : TxEntry) :
    ({ l with latch := k } : Lnk).enter place e = { l.enter place e with latch := k } := by
  by_cases room : l.queue.length < 8
  · simp only [Lnk.enter, if_pos room]
  · by_cases displaces : greatestClass l.queue > e.cls
    · simp only [Lnk.enter, if_neg room, if_pos displaces]
    · simp only [Lnk.enter, if_neg room, if_neg displaces]

/-- No offer reads or writes the start latch. -/
theorem Lnk.offer_withLatch (l : Lnk) (k : StartLatch) (x : TxItem) :
    ({ l with latch := k } : Lnk).offer x = { l.offer x with latch := k } := by
  unfold Lnk.offer
  dsimp only
  split
  · rfl
  · exact Lnk.enter_withLatch { l with nextOrder := l.nextOrder + 1 } k txInsert _

theorem Lnk.offersNamed.latch {l m : Lnk} {names : List FrameName} (h : l.offersNamed m names) (k : StartLatch) :
    ({ l with latch := k } : Lnk).offersNamed { m with latch := k } names := by
  obtain ⟨items, rfl, rfl⟩ := h
  refine ⟨items, ?_, rfl⟩
  unfold Lnk.offers
  induction items generalizing l with
  | nil => rfl
  | cons x items ih => exact ih.trans (congrArg (List.foldl Lnk.offer · items) (l.offer_withLatch k x).symm)

/-- The MARK that the next sample event offers. -/
def State.markAhead (s : State) : List FrameName :=
  if s.ctb.nextAdvance.commonWrap then [.mark s.ctb.nextAdvance.markInstant] else []

section
variable (s : State) (x : SampleInputs)

/-- A common wrap offers its MARK, and a capture marks the start latch (R107, R119). -/
theorem State.atWork_offers : s.lnk.offersNamed { (s.atWork x).lnk with latch := s.lnk.latch } s.markAhead := by
  obtain ⟨l, lnk⟩ := s.atAdvance_lnk
  rw [State.atWork_lnk, lnk, State.markAhead]
  split
  · have offered := (Lnk.offersNamed_one s.lnk (.mark s.ctb.nextAdvance.markInstant)).latch s.lnk.latch
    exact offered
  · exact Lnk.offersNamed_nil _

theorem State.evaluateLock_latch {s : State} {fBase : Nat} (h : s.captureError s.lockAfter = none) :
    (s.evaluateLock fBase).lnk = s.lnk := by
  by_cases errors : s.freshErrors = []
  · rw [State.evaluateLock_of_no_errors errors]
    rfl
  · rw [State.evaluateLock_of_errors errors h]
    rfl

theorem State.carryEvaluation_latch {s : State} (h : ∀ lock, s.captureError lock = none) :
    s.carryEvaluation.lnk = s.lnk := by
  unfold State.carryEvaluation
  split
  · split
    · rfl
    · exact State.evaluateLock_latch (s := s.setLck { s.lck with waiting := none }) (h _)
  · rfl

/-- While SEQ is not at rest no capture marks the start latch (R126). -/
theorem State.atWork_latch {s : State} (awake : s.seq.state ≠ .idle ∧ s.seq.state ≠ .suspended
    ∧ s.seq.state ≠ .tripped ∧ s.seq.state ≠ .faulted) (x : SampleInputs) :
    (s.atWork x).lnk.latch = s.lnk.latch := by
  have kept (t : State) (seq : t.seq = s.seq) : t.carryEvaluation.lnk = t.lnk :=
    State.carryEvaluation_latch (State.captureError_of_state (by rwa [seq]))
  rw [State.atWork_lnk, State.atAdvance]
  split
  · have same : ((s.setCtb s.ctb.advance).commonWrap s.ctb.nextAdvance).lnk
        = s.lnk.offer (.mark s.ctb.nextAdvance.markInstant) := by
      rw [State.commonWrap_eq]
      split
      · exact kept ((s.setCtb s.ctb.advance).marked s.ctb.nextAdvance) rfl
      · exact kept ((s.setCtb s.ctb.advance).marked s.ctb.nextAdvance) rfl
    rw [same, Lnk.offer_latch]
  · rfl

/-- Awake, the next sample event offers its MARK, and what SEQ's work offers comes behind it. -/
theorem State.atWork_offers_of_awake {s : State} (awake : s.seq.state ≠ .idle ∧ s.seq.state ≠ .suspended
    ∧ s.seq.state ≠ .tripped ∧ s.seq.state ≠ .faulted) (x : SampleInputs) :
    s.lnk.offersNamed (s.atWork x).lnk s.markAhead := by
  have offered := s.atWork_offers x
  rwa [← State.atWork_latch awake x] at offered

/-- What SEQ's work of a sample offers comes behind the MARK of its common wrap. -/
theorem State.sample_offers {s : State} {x : SampleInputs} {names : List FrameName}
    (h : (s.atWork x).lnk.offersNamed (s.sample x).lnk names) :
    s.lnk.offersNamed { (s.sample x).lnk with latch := s.lnk.latch } (s.markAhead ++ names) :=
  Lnk.offersNamed_append (s.atWork_offers x) (h.latch s.lnk.latch)

end

/-! ### The start sample -/

/-- The level change of a start sample, or the level's own ramp (R21, R22). -/
theorem Syn.startWith_level (y : Syn) (r : StepRecord) :
    (∀ l, r.level = some l → (y.startWith r).level = (y.startLevel l.toNat r.ramp.toNat).level
        ∧ (y.startWith r).ramp = (y.startLevel l.toNat r.ramp.toNat).ramp)
      ∧ (r.level = none → (y.startWith r).level = (y.levelStep false).level
        ∧ (y.startWith r).ramp = (y.levelStep false).ramp) := by
  refine ⟨fun l some => ?_, fun none => ?_⟩
  · rw [Syn.startWith, some]
    exact ⟨rfl, rfl⟩
  · rw [Syn.startWith, none]
    exact ⟨rfl, rfl⟩

theorem Syn.startWith_profile (y : Syn) (r : StepRecord) : (y.startWith r).profile = r.profile.getD y.profile := by
  obtain ⟨l, p, g, same⟩ := y.startWith_eq r
  rw [same]

theorem markerAfter_eq (old : Bool) (m : MarkerSetting) : markerAfter old m = (match m with
    | .keep => old
    | .low => false
    | .high => true) := by
  cases m <;> rfl

section
variable {s : State} {x : SampleInputs} {r : StepRecord}

/-- The step that starts is ARMED or GATHERING. -/
theorem State.startsOn.state (h : s.startsOn r) : s.seq.state = .armed ∨ s.seq.state = .gathering := by
  obtain ⟨-, -, ⟨armed, -⟩ | ⟨gathering, -⟩⟩ := h
  · exact .inl armed
  · exact .inr gathering

theorem State.startsOn.image (h : s.startsOn r) : s.seq.image = some r := h.1

/-- The limit and the trip cycles that a start sample sets, or lets stand (R148). -/
theorem State.startSettings_limit (s : State) (r : StepRecord) :
    (∀ l, r.currentLimit = some l → (s.startSettings r).limit = l.toNat)
      ∧ (r.currentLimit = none → (s.startSettings r).limit = s.stc.setup.limit) := by
  refine ⟨fun l given => ?_, fun none => ?_⟩
  · simp only [State.startSettings, given]
  · simp only [State.startSettings, none]

theorem State.startSettings_tripCycles (s : State) (r : StepRecord) :
    (∀ n, r.tripCycles = some n → (s.startSettings r).tripCycles = n.toNat)
      ∧ (r.tripCycles = none → (s.startSettings r).tripCycles = s.ftu.tripCycles) := by
  refine ⟨fun n given => ?_, fun none => ?_⟩
  · simp only [State.startSettings, given]
  · simp only [State.startSettings, none]

theorem State.startStep_lnk (s : State) (a : Advance) (r : StepRecord) :
    s.lnk.offersNamed (s.startStep a r).lnk [.status .started .active] := by
  simp only [State.startStep]
  refine Lnk.offersNamed.status (names := []) ?_ rfl
  exact Lnk.offersNamed_nil _

theorem State.worked_of_starting (ready : s.ready) (open' : s.undisputed) (starts : s.startsOn r) :
    s.worked x = ((s.atWork x).prepared s.ctb.nextAdvance).startStep s.ctb.nextAdvance r := by
  rw [State.worked_of_undisputed ready open', State.stepWork_of_starting ((State.starting_atWork_iff x).2 starts)]

theorem State.worked_starting_seq (ready : s.ready) (open' : s.undisputed) (starts : s.startsOn r) :
    (s.worked x).seq = (s.atWork x).seq.startWith r (decide (r.tripPolicy.getD s.stc.setup.policy = .hold) && s.troubled) := by
  have trouble : ((s.atWork x).prepared s.ctb.nextAdvance).troubled = s.troubled :=
    (State.troubled_congr (by simp) (fun n => by rw [State.prepared_ptb]) fun n => by rw [State.prepared_ptb]).trans
      (State.atWork_troubled x s)
  rw [State.worked_of_starting ready open' starts, State.startStep_seq, State.prepared_retest, trouble,
    State.prepared_stc, State.atWork_stc]

theorem State.worked_starting_lnk (ready : s.ready) (open' : s.undisputed) (starts : s.startsOn r) :
    (s.atWork x).lnk.offersNamed (s.sample x).lnk [.status .started .active] := by
  have waits : (s.atWork x).seq.state ≠ .active := by
    rw [State.atWork_seq]
    obtain state | state := starts.state <;> simp [state]
  have offered := State.startStep_lnk ((s.atWork x).prepared s.ctb.nextAdvance) s.ctb.nextAdvance r
  rwa [State.prepared_lnk _ _ (.inr waits), ← State.worked_of_starting ready open' starts, ← State.sample_lnk] at offered

theorem State.worked_starting_ctb (ready : s.ready) (open' : s.undisputed) (starts : s.startsOn r) :
    (s.sample x).ctb = (s.atWork x).ctb.startWith r s.ctb.f := by
  rw [State.sample_ctb, State.worked_of_starting ready open' starts]
  simp [State.startStep]
  rfl

end

/-- Settles O20: the start sample is `State.startStep` of the state at work (`State.worked_of_starting`), block by
block (`State.Starts`). -/
theorem startSampleHandsTheStepOver : Obligations.StartSampleHandsTheStepOver := by
  unfold Obligations.StartSampleHandsTheStepOver
  intro s x r ready open' starts
  have started := State.worked_starts (x := x) ready open' starts
  have seq := State.worked_starting_seq (x := x) ready open' starts
  have ctb := State.worked_starting_ctb (x := x) ready open' starts
  have level : (s.sample x).syn.level = (s.worked x).syn.level := by rw [State.sample_syn, Syn.present_level]
  have ramp : (s.sample x).syn.ramp = (s.worked x).syn.ramp := by rw [State.sample_syn, Syn.present_ramp]
  have profile : (s.sample x).syn.profile = (s.worked x).syn.profile := by rw [State.sample_syn, Syn.present_profile]
  have ftu := s.sample_ftu_eq x
  have settings := started.ftu
  obtain ⟨level₀, ramp₀, safe₀⟩ := s.atWork_levels x
  obtain ⟨f₀, framp₀⟩ := s.atWork_ctb_f x
  have profile₀ : (s.atWork x).syn.profile = s.syn.profile := by rw [State.atWork_syn]
  have cycles₀ : (s.atWork x).ftu.tripCycles = s.ftu.tripCycles := by rw [State.atWork_ftu_eq]
  refine ⟨s.sample x, exec_sampleEvent_of_ready ready x, ?_⟩
  rw [State.sample_seq, State.sample_jnt, State.sample_ovl, seq, ctb, level, ramp, profile, ftu, settings, started.syn,
    started.ovl, State.atWork_ovl, State.atWork_seq]
  refine ⟨rfl, starts.image, rfl, started.gate, rfl, rfl, ?_⟩
  refine ⟨fun l some none => ?_, fun l some ramps => ?_, fun none safe => ⟨fun rests => ?_, fun p ramps runs => ?_⟩,
    fun none => ⟨fun rests => ?_, fun p ramps runs => ?_⟩, ?_, fun f some none => ?_, fun f some ramps => ?_, ?_, rfl,
    fun m some => ?_, fun none => ?_, ?_, ?_, ?_, rfl, ?_⟩
  · obtain ⟨level', ramp'⟩ := ((s.atWork x).syn.startWith_level r).1 l some
    rw [level', ramp', Syn.startLevel, none]
    exact ⟨rfl, rfl⟩
  · obtain ⟨level', ramp'⟩ := ((s.atWork x).syn.startWith_level r).1 l some
    have long : r.ramp.toNat ≠ 0 := fun zero => ramps (BitVec.eq_of_toNat_eq zero)
    rw [level', ramp', Syn.startLevel, if_neg long, level₀]
    exact ⟨rfl, rfl⟩
  · obtain ⟨level', ramp'⟩ := ((s.atWork x).syn.startWith_level r).2 none
    rw [level', ramp', Syn.levelStep_of_rest (safe₀.trans safe) (.inl (ramp₀.trans rests)), level₀, ramp₀]
    exact ⟨rfl, rests⟩
  · obtain ⟨level', ramp'⟩ := ((s.atWork x).syn.startWith_level r).2 none
    rw [level', ramp', Syn.levelStep_of_ramp (safe₀.trans safe) (ramp₀.trans ramps) runs]
    exact ⟨rfl, rfl⟩
  · rw [Ctb.startWith, none, Ctb.rampStep_of_rest (.inl (framp₀.trans rests))]
    exact ⟨f₀, framp₀.trans rests⟩
  · rw [Ctb.startWith, none, Ctb.rampStep_of_ramp (framp₀.trans ramps) runs]
    exact ⟨rfl, rfl⟩
  · rw [← State.troubled_iff]
    simp [Seq.startWith]
  · have short : r.ramp.toNat = 0 := by rw [none]; rfl
    simp only [Ctb.startWith, some, Ctb.startFrequency, if_pos short]
    exact ⟨rfl, trivial⟩
  · have long : r.ramp.toNat ≠ 0 := fun zero => ramps (BitVec.eq_of_toNat_eq zero)
    simp only [Ctb.startWith, some, Ctb.startFrequency, if_neg long]
    exact ⟨rfl, trivial⟩
  · rw [Syn.startWith_profile, profile₀]
    cases r.profile <;> rfl
  · simp only [Seq.startWith, some]
    exact ⟨markerAfter_eq _ _, markerAfter_eq _ _⟩
  · simp [Seq.startWith, none]
  · obtain ⟨set, stands⟩ := (s.atWork x).startSettings_limit r
    cases given : r.currentLimit with
    | some l => exact set l given
    | none => exact (stands given).trans (congrArg (·.setup.limit) (s.atWork_stc x))
  · rw [State.startSettings, State.atWork_stc]
  · obtain ⟨set, stands⟩ := (s.atWork x).startSettings_tripCycles r
    cases given : r.tripCycles with
    | some n => exact set n given
    | none => exact (stands given).trans cycles₀
  · exact State.sample_offers (State.worked_starting_lnk ready open' starts)

end Sys2Proof.Machine
end

section
/-! PROOFS. SEQ's work of a sample that starts no step: the await gate (O22), and the duration on a sample with no order
open (O23). -/

namespace Sys2Proof.Machine

section
variable {u v : State} {a : Advance} {r : StepRecord}

/-! ### The progress, case by case -/

theorem State.seqProgress_of_active (image : v.seq.image = some r) (active : v.seq.state = .active) :
    v.seqProgress a = v.setSeq { v.seq with progress := v.progressAfter a r } := by
  simp only [State.seqProgress, image, active]

/-- Beside ACTIVE, and an await gate that is shut, SEQ makes no progress. -/
theorem State.seqProgress_of_still (active : v.seq.state ≠ .active) (gate : v.seq.state = .armed → v.seq.awaitOpen = true) :
    v.seqProgress a = v := by
  unfold State.seqProgress
  split
  · rfl
  · split
    next is => exact absurd is active
    next armed => simp [gate armed]
    · rfl

theorem State.seqProgress_of_shut (image : v.seq.image = some r) (armed : v.seq.state = .armed)
    (shut : ¬ (a.ownWrap = true ∧ awaitMet v.seq.in0 v.seq.in1 r.awaited = true)) : v.seqProgress a = v := by
  simp only [State.seqProgress, image, armed]
  rw [if_neg]
  simp only [Bool.and_eq_true]
  tauto

theorem State.seqProgress_of_opens (image : v.seq.image = some r) (armed : v.seq.state = .armed)
    (closed : v.seq.awaitOpen = false) (wrap : a.ownWrap = true)
    (met : awaitMet v.seq.in0 v.seq.in1 r.awaited = true) :
    (r.joint = none → v.seqProgress a = v.setSeq { v.seq with awaitOpen := true })
      ∧ ∀ j, r.joint = some j → v.seqProgress a = (v.setSeq { v.seq with awaitOpen := true }).enterGathering j := by
  have opens : (a.ownWrap && !v.seq.awaitOpen && awaitMet v.seq.in0 v.seq.in1 r.awaited) = true := by
    simp [closed, wrap, met]
  refine ⟨fun plain => ?_, fun j joint => ?_⟩
  · simp only [State.seqProgress, image, armed, if_pos opens, plain]
  · simp only [State.seqProgress, image, armed, if_pos opens, joint]

/-! ### The work of a state without a step in effect -/

/-- Without a start the pointer stands. -/
theorem State.stepWork_pointer (none : u.starting a = none) : (u.stepWork a).seq.pointer = u.seq.pointer := by
  rw [State.stepWork_of_no_start none, State.seqProgress_seq]
  simp [State.prepared_seq]

/-- Out of a step in effect the tests before SEQ's work leave SEQ as it is but for the retest. -/
theorem State.prepared_seq_of_waiting (active : u.seq.state ≠ .active) (frozen : u.seq.state ≠ .frozen) :
    (u.prepared a).seq = { u.seq with retest := false } := by
  have idle : u.inEffect = false := by simp [State.inEffect, active, frozen]
  rw [State.prepared_seq, if_neg (by simp [active]), idle, Bool.and_false, if_neg (by decide)]

/-- The state whose progress SEQ's work makes. -/
def State.atProgress (u : State) (a : Advance) : State := (u.prepared a).rampProgress

theorem State.atProgress_of_waiting (active : u.seq.state ≠ .active) (frozen : u.seq.state ≠ .frozen) :
    (u.atProgress a).seq = { u.seq with retest := false } ∧ (u.atProgress a).jnt = u.jnt
      ∧ (u.atProgress a).lnk = u.lnk := by
  refine ⟨?_, ?_, ?_⟩
  · rw [State.atProgress, State.rampProgress_seq, State.prepared_seq_of_waiting active frozen]
  · rw [State.atProgress, State.rampProgress_jnt, State.prepared_jnt]
  · rw [State.atProgress, State.rampProgress_lnk, State.prepared_lnk _ _ (.inr active)]

/-- A state in which SEQ waits for nothing that a sample brings does no work of its own (R69). -/
theorem State.stepWork_of_still (none : u.starting a = none) (active : u.seq.state ≠ .active)
    (frozen : u.seq.state ≠ .frozen) (gate : u.seq.state = .armed → u.seq.awaitOpen = true) :
    (u.stepWork a).seq = { u.seq with retest := false } ∧ (u.stepWork a).jnt = u.jnt
      ∧ (u.stepWork a).lnk = u.lnk := by
  have waiting := State.atProgress_of_waiting (a := a) active frozen
  have seq := waiting.1
  have still : (u.atProgress a).seqProgress a = u.atProgress a :=
    State.seqProgress_of_still (by rwa [seq]) (by rwa [seq])
  rw [State.stepWork_of_no_start none]
  exact still.symm ▸ waiting

/-- An ARMED step whose await gate is shut (R74). -/
structure State.Awaits (u : State) (r : StepRecord) : Prop where
  armed : u.seq.state = .armed
  image : u.seq.image = some r
  closed : u.seq.awaitOpen = false

namespace State.Awaits

theorem starting (h : u.Awaits r) : u.starting a = none := by
  refine Option.eq_none_iff_forall_ne_some.2 fun q starts => ?_
  obtain ⟨-, -, ⟨-, opened, -⟩ | ⟨gathering, -⟩⟩ := State.starting_eq_some_iff.1 starts
  · rw [h.closed] at opened
    exact nomatch opened
  · rw [h.armed] at gathering
    exact nomatch gathering

/-- The await gate is tested on the inputs that an own wrap has latched. -/
def met (u : State) (a : Advance) (r : StepRecord) : Prop :=
  a.ownWrap = true ∧ awaitMet u.seq.in0 u.seq.in1 r.awaited = true

theorem waiting (h : u.Awaits r) : u.seq.state ≠ .active ∧ u.seq.state ≠ .frozen := by
  rw [h.armed]
  exact ⟨nofun, nofun⟩

theorem stepWork_of_shut (h : u.Awaits r) (shut : ¬ met u a r) :
    (u.stepWork a).seq = { u.seq with retest := false } ∧ (u.stepWork a).jnt = u.jnt
      ∧ (u.stepWork a).lnk = u.lnk := by
  have waiting := State.atProgress_of_waiting (a := a) h.waiting.1 h.waiting.2
  have seq := waiting.1
  have still : (u.atProgress a).seqProgress a = u.atProgress a :=
    State.seqProgress_of_shut (r := r) (by rw [seq, h.image]) (by rw [seq, h.armed]) (by rw [seq]; exact shut)
  rw [State.stepWork_of_no_start h.starting]
  exact still.symm ▸ waiting

theorem stepWork_of_plain (h : u.Awaits r) (opens : met u a r) (plain : r.joint = none) :
    (u.stepWork a).seq = { u.seq with retest := false, awaitOpen := true } ∧ (u.stepWork a).jnt = u.jnt
      ∧ (u.stepWork a).lnk = u.lnk := by
  obtain ⟨seq, jnt, lnk⟩ := State.atProgress_of_waiting (a := a) h.waiting.1 h.waiting.2
  have opened : (u.atProgress a).seqProgress a
      = (u.atProgress a).setSeq { (u.atProgress a).seq with awaitOpen := true } :=
    (State.seqProgress_of_opens (r := r) (by rw [seq, h.image]) (by rw [seq, h.armed]) (by rw [seq, h.closed]) opens.1
      (by rw [seq]; exact opens.2)).1 plain
  rw [State.stepWork_of_no_start h.starting]
  refine opened.symm ▸ ⟨?_, jnt, lnk⟩
  rw [State.setSeq_seq, seq]

theorem stepWork_of_joint (h : u.Awaits r) (opens : met u a r) {j : JointPart} (joint : r.joint = some j) :
    ∃ name, u.opensGate (u.stepWork a) j name
      ∧ (u.stepWork a).seq = { u.seq with retest := false, awaitOpen := true, state := .gathering }
      ∧ u.lnk.offersNamed (u.stepWork a).lnk [.status .taken .gathering, name] := by
  obtain ⟨seq, -, lnk⟩ := State.atProgress_of_waiting (a := a) h.waiting.1 h.waiting.2
  have opened : (u.atProgress a).seqProgress a
      = ((u.atProgress a).setSeq { (u.atProgress a).seq with awaitOpen := true }).enterGathering j :=
    (State.seqProgress_of_opens (r := r) (by rw [seq, h.image]) (by rw [seq, h.armed]) (by rw [seq, h.closed]) opens.1
      (by rw [seq]; exact opens.2)).2 j joint
  obtain ⟨name, gate, gathered, offered, -⟩ :=
    ((u.atProgress a).setSeq { (u.atProgress a).seq with awaitOpen := true }).enterGathering_opens j
  rw [State.stepWork_of_no_start h.starting]
  have ptb : (u.atProgress a).ptb = u.ptb := by simp [State.atProgress]
  refine ⟨name, ?_, ?_, ?_⟩
  · rw [← opened] at gate
    exact gate.congr (State.own_congr (by simp [State.atProgress])) (fun n => by rw [State.setSeq_ptb, ptb])
      fun n => by rw [State.setSeq_ptb, ptb]
  · refine (congrArg State.seq opened).trans ?_
    rw [gathered, State.setSeq_seq, seq]
  · rw [← opened, State.setSeq_lnk, lnk] at offered
    exact offered

end State.Awaits

/-- How a gate opens turns on JNT and the common cycles it leaves. -/
theorem State.opensGate.congr_after {s t t' : State} {j : JointPart} {name : FrameName} (h : s.opensGate t j name)
    (jnt : t'.jnt = t.jnt) (cycles : t'.ctb.commonCycles = t.ctb.commonCycles) : s.opensGate t' j name := by
  unfold State.opensGate at *
  simpa only [jnt, cycles] using h

variable {s : State} {x : SampleInputs}

theorem State.Awaits.atWork (h : s.Awaits r) : (s.atWork x).Awaits r := by
  refine ⟨?_, ?_, ?_⟩
  · rw [State.atWork_seq, h.armed]
  · rw [State.atWork_seq, h.image]
  · rw [State.atWork_seq, h.closed]

/-- The sample opens the gate on the levels that its own wrap latches (R74). -/
theorem State.met_atWork_iff : State.Awaits.met (s.atWork x) s.ctb.nextAdvance r
    ↔ s.ctb.nextAdvance.ownWrap = true ∧ awaitMet x.in0 x.in1 r.awaited = true := by
  unfold State.Awaits.met
  refine and_congr_right fun wrap => ?_
  rw [State.atWork_seq]
  simp only [wrap, if_true]

/-- A gate that does not stand COMPLETE is as it was on a common wrap. -/
theorem State.atWork_jnt_of_idle (idle : s.jnt.gate = .idle) : (s.atWork x).jnt = s.jnt := by
  rw [State.atWork_jnt, State.atAdvance_jnt, if_neg (by simp [idle])]

end

/-- Settles O22: an await gate's work is `State.Awaits.stepWork_of_shut`, `.stepWork_of_plain` or `.stepWork_of_joint`
of the state at work; every other resting state's is `State.stepWork_of_still`. -/
theorem awaitGateOpensOnAnOwnWrap : Obligations.AwaitGateOpensOnAnOwnWrap := by
  unfold Obligations.AwaitGateOpensOnAnOwnWrap
  refine ⟨fun s x r ready open' armed image closed idle => ?_, fun s x ready quiet open' retest active frozen gate => ?_,
    fun s x ready => ?_⟩
  · intro opens mark
    have awaits : s.Awaits r := ⟨armed, image, closed⟩
    have awake : s.seq.state ≠ .idle ∧ s.seq.state ≠ .suspended ∧ s.seq.state ≠ .tripped ∧ s.seq.state ≠ .faulted := by
      simp [armed]
    have marked : s.lnk.offersNamed (s.atWork x).lnk mark := State.atWork_offers_of_awake awake x
    have atWork : (s.atWork x).Awaits r := awaits.atWork
    have quiet : s.noStart := fun q starts => by
      have none := atWork.starting (a := s.ctb.nextAdvance)
      rw [(State.starting_atWork_iff x).2 starts] at none
      exact nomatch none
    have met : State.Awaits.met (s.atWork x) s.ctb.nextAdvance r ↔ opens := State.met_atWork_iff
    have worked := State.worked_of_undisputed (x := x) ready open'
    have goes := State.worked_goesOn (x := x) quiet
    have pointer := State.stepWork_pointer (State.starting_atWork_eq_none x quiet)
    rw [← worked] at pointer
    clear_value opens mark
    have latched := State.atWork_seq s x
    refine ⟨s.sample x, exec_sampleEvent_of_ready ready x, ?_⟩
    rw [State.sample_seq, State.sample_jnt, State.sample_lnk]
    refine ⟨?_, ?_, fun wrap => ?_, fun inside => ?_, fun shut => ?_, fun opened plain => ?_, fun opened j joint => ?_⟩
    · rw [goes.image, latched, image]
    · rw [pointer, latched]
    · rw [goes.in0, goes.in1, latched, wrap]
      exact ⟨rfl, rfl⟩
    · rw [goes.in0, goes.in1, latched, inside]
      exact ⟨rfl, rfl⟩
    · obtain ⟨seq, jnt, lnk⟩ := atWork.stepWork_of_shut (met.not.2 shut)
      rw [worked, seq, jnt, lnk, State.atWork_jnt_of_idle idle]
      exact ⟨atWork.armed, atWork.closed, rfl, marked⟩
    · obtain ⟨seq, jnt, lnk⟩ := atWork.stepWork_of_plain (met.2 opened) plain
      rw [worked, seq, jnt, lnk, State.atWork_jnt_of_idle idle]
      exact ⟨atWork.armed, rfl, rfl, marked⟩
    · obtain ⟨name, gate, seq, offered⟩ := atWork.stepWork_of_joint (met.2 opened) joint
      rw [← worked] at gate seq offered
      refine ⟨by rw [seq], name, ?_, Lnk.offersNamed_append marked offered⟩
      have entered := gate.congr (State.own_congr (s.atWork_stc x))
        (fun n => by rw [State.atWork_ptb, State.atAdvance_peer_state])
        fun n => by rw [State.atWork_ptb, State.atAdvance_peer_tripped]
      exact entered.congr_after (s.sample_jnt x) (by rw [State.sample_ctb])
  · intro a
    have starts := State.starting_atWork_eq_none x quiet
    have latched := State.atWork_seq s x
    obtain ⟨seq, jnt, lnk⟩ := State.stepWork_of_still starts (by rwa [latched]) (by rwa [latched]) (by rwa [latched])
    rw [← State.worked_of_undisputed (x := x) ready open'] at seq jnt lnk
    refine ⟨s.sample x, exec_sampleEvent_of_ready ready x, ?_, ?_, ?_⟩
    · rw [State.sample_seq, seq, latched, ← retest]
    · rw [State.sample_jnt, jnt, State.atWork_jnt, State.atAdvance_jnt]
    · rw [State.sample_lnk, lnk]
      exact s.atWork_offers x
  · obtain ⟨in0, in1⟩ := s.worked_in0 x
    refine ⟨s.sample x, exec_sampleEvent_of_ready ready x, ?_⟩
    rw [State.sample_seq, in0, in1, State.atWork_seq]
    exact ⟨rfl, rfl⟩

end Sys2Proof.Machine
end

section
/-! PROOFS. SEQ's work of a sample with a step in effect: the retest of the records, the duration and the count of the
cycle; and the work that an order drawn with losses leaves (O23). -/

namespace Sys2Proof.Machine

/-! ### The work of a step in effect -/

/-- The state of SEQ after the records have been tested again (R89). -/
def State.retested (u : State) : SeqState :=
  if u.seq.retest = true ∧ u.seq.state = .active ∧ u.troubled = true then .frozen else u.seq.state

theorem State.retested_of_no_retest {u : State} (h : u.seq.retest = false) : u.retested = u.seq.state := by
  rw [State.retested, if_neg (by simp [h])]

theorem State.progressAfter_eq (v : State) (a : Advance) (r : StepRecord) : v.progressAfter a r
    = if r.unit = .samples ∨ a.ownWrap = true then v.seq.progress + 1 else v.seq.progress := by
  simp [State.progressAfter]

/-- A step is in effect (R77). -/
structure State.Runs (u : State) (r : StepRecord) : Prop where
  state : u.seq.state = .active ∨ u.seq.state = .frozen
  image : u.seq.image = some r

namespace State.Runs

variable {u : State} {a : Advance} {r : StepRecord}

theorem inEffect (h : u.Runs r) : u.inEffect = true := by
  simp [State.inEffect, h.state, h.image]

theorem starting (h : u.Runs r) : u.starting a = none := by
  refine Option.eq_none_iff_forall_ne_some.2 fun q starts => ?_
  obtain ⟨-, -, ⟨waits, -⟩ | ⟨waits, -⟩⟩ := State.starting_eq_some_iff.1 starts <;>
    obtain state | state := h.state <;> rw [state] at waits <;> exact nomatch waits

theorem retested_among (h : u.Runs r) : u.retested = .active ∨ u.retested = .frozen := by
  unfold State.retested
  split
  · exact .inr rfl
  · exact h.state

theorem prepared_seq (h : u.Runs r) : (u.prepared a).seq = { u.seq with
    retest := false
    state := u.retested
    tally := if a.ownWrap then u.seq.tally.count u.fbm.lastLrms else u.seq.tally } := by
  rw [State.prepared_seq, h.inEffect, Bool.and_true, State.retested, h.image]
  simp only [Option.isSome_some, true_and]

/-- The records are tested again, the cycle counted, and the sample, or its own wrap, to an ACTIVE step (R78, R89,
R144). -/
theorem stepWork_seq (h : u.Runs r) : (u.stepWork a).seq = { u.seq with
    retest := false
    state := u.retested
    tally := if a.ownWrap then u.seq.tally.count u.fbm.lastLrms else u.seq.tally
    progress := if u.retested = .active ∧ (r.unit = .samples ∨ a.ownWrap = true) then u.seq.progress + 1
      else u.seq.progress } := by
  have seq : (u.prepared a).rampProgress.seq = (u.prepared a).seq := State.rampProgress_seq _
  rw [State.stepWork_of_no_start h.starting]
  obtain active | frozen := h.retested_among
  · rw [State.seqProgress_of_active (r := r) (by rw [seq, h.prepared_seq, h.image]) (by rw [seq, h.prepared_seq, active]),
      State.setSeq_seq, State.progressAfter_eq, seq, h.prepared_seq, active]
    simp only [true_and]
  · rw [State.seqProgress_of_still (by rw [seq, h.prepared_seq, frozen]; nofun)
      (by rw [seq, h.prepared_seq, frozen]; nofun), seq, h.prepared_seq, frozen]
    simp only [reduceCtorEq, false_and, if_false]

end State.Runs

section
variable {s : State} {x : SampleInputs} {r : StepRecord}

theorem State.Runs.atWork (h : s.Runs r) : (s.atWork x).Runs r := by
  refine ⟨?_, ?_⟩
  · rw [State.atWork_seq]
    exact h.state
  · rw [State.atWork_seq]
    exact h.image

theorem State.Ahead.runs {v u : State} (h : v.Ahead u) (k : v.Runs r) : u.Runs r := by
  refine ⟨?_, h.image.trans k.image⟩
  obtain same | ⟨-, among⟩ := h.state
  · rw [same]
    exact k.state
  · exact among

theorem State.Runs.noStart (h : s.Runs r) : s.noStart := fun q starts => by
  have none := (h.atWork (x := ⟨0, 0, false, false⟩)).starting (a := s.ctb.nextAdvance)
  rw [(State.starting_atWork_iff _).2 starts] at none
  exact nomatch none

end

/-! ### The state in which SEQ works after losses -/

/-- The losses that are due, and the evaluation of the lock after them (R122, R123). -/
def State.afterLosses (u : State) : State := u.carryLosses.carryEvaluation

section
variable {u : State}

theorem State.afterLosses_peer (m : Station) : (u.afterLosses.ptb.peer m).state
      = (if u.lossDue m = true then .lost else (u.ptb.peer m).state)
    ∧ (u.afterLosses.ptb.peer m).tripped = (u.ptb.peer m).tripped := by
  rw [State.afterLosses, State.carryEvaluation_peer, State.carryLosses_peer]
  split <;> exact ⟨rfl, rfl⟩

theorem State.afterLosses_anyLossDue (u : State) : u.afterLosses.anyLossDue = false := by
  rw [State.afterLosses, State.carryEvaluation_anyLossDue, State.carryLosses_anyLossDue]

theorem State.afterLosses_stc (u : State) : u.afterLosses.stc = u.stc := by
  rw [State.afterLosses, State.carryEvaluation_stc, State.carryLosses_stc]

/-- A record that shows trouble shows it after the losses (R89). -/
theorem State.afterLosses_troubled (h : u.troubled = true) : u.afterLosses.troubled = true := by
  obtain ⟨n, other, trouble⟩ := State.troubled_iff.1 h
  obtain ⟨state, tripped⟩ := State.afterLosses_peer (u := u) n
  refine State.troubled_iff.2 ⟨n, by rwa [State.own_congr u.afterLosses_stc], ?_⟩
  rw [state, tripped]
  refine trouble.imp id fun lost => ?_
  split
  · rfl
  · exact lost

/-- One loss under IGNORE moves no state of SEQ; under HOLD it leaves a step in effect FROZEN (R89, R156). -/
theorem State.carryLoss_state (mild : u.policyInForce ≠ .follow) {n : Station} (due : u.lossDue n = true) :
    (u.policyInForce = .ignore → (u.carryLoss n).seq.state = u.seq.state)
      ∧ (u.policyInForce = .hold → u.inEffect = true → (u.carryLoss n).seq.state = .frozen) := by
  obtain ⟨w, lost⟩ : ∃ w, w = (u.setPtb (u.ptb.setPeer n { u.ptb.peer n with state := .lost })).maskedTrouble n .peerLost :=
    ⟨_, rfl⟩
  have seq : w.seq = u.seq := by rw [lost, State.maskedTrouble_seq, State.setPtb_seq]
  have policy : w.policyInForce = u.policyInForce := by
    rw [lost, (State.Mild.maskedTrouble _ _ _).policyInForce, (State.Mild.setPtb _ _).policyInForce]
  have carried : u.carryLoss n = w.applyPolicy .peerLost := by
    have follow : (u.setPtb (u.ptb.setPeer n { u.ptb.peer n with state := .lost })).policyInForce ≠ .follow := mild
    rw [State.carryLoss_of_due due, lost, State.peerTrouble, if_neg (by simp [follow])]
  rw [carried]
  unfold State.applyPolicy
  refine ⟨fun ignore => ?_, fun hold effect => ?_⟩
  · rw [policy, ignore]
    dsimp only
    rw [ite_self, seq]
  · simp only [State.inEffect, Bool.and_eq_true, Bool.or_eq_true, decide_eq_true_eq] at effect
    rw [policy, hold, if_neg (by obtain ⟨active | frozen, -⟩ := effect <;> simp [State.peerEventExcluded, *])]
    obtain ⟨active | frozen, -⟩ := effect
    · rw [State.freeze_of_active (by rw [seq, active])]
      rfl
    · rw [State.freeze_of_not_active (by rw [seq, frozen]; nofun), seq, frozen]

/-- What each loss keeps, all the losses keep. -/
theorem State.carryLosses_induction {motive : State → Prop} (start : motive u)
    (step : ∀ t n, motive t → motive (t.carryLoss n)) : motive u.carryLosses :=
  List.foldlRecOn stations State.carryLoss start fun t k n _ => step t n k

theorem State.carryLosses_state_of_ignore (ignore : u.policyInForce = .ignore) :
    u.carryLosses.seq.state = u.seq.state := by
  have kept : u.Mild u.carryLosses ∧ u.carryLosses.seq.state = u.seq.state := by
    refine State.carryLosses_induction (motive := fun t => u.Mild t ∧ t.seq.state = u.seq.state) ⟨.refl u, rfl⟩ ?_
    rintro t n ⟨calm, state⟩
    have policy : t.policyInForce = .ignore := by rw [calm.policyInForce, ignore]
    have mild : t.policyInForce ≠ .follow := by simp [policy]
    refine ⟨calm.trans (State.Mild.carryLoss mild n), ?_⟩
    cases due : t.lossDue n with
    | false => rw [State.carryLoss_of_not_due due, state]
    | true => rw [(State.carryLoss_state mild due).1 policy, state]
  exact kept.2

theorem State.carryLosses_state_of_hold (hold : u.policyInForce = .hold) (effect : u.inEffect = true)
    (due : u.anyLossDue = true) : u.carryLosses.seq.state = .frozen := by
  have kept : u.Mild u.carryLosses ∧ (u.carryLosses = u ∨ u.carryLosses.seq.state = .frozen) := by
    refine State.carryLosses_induction (motive := fun t => u.Mild t ∧ (t = u ∨ t.seq.state = .frozen))
      ⟨.refl u, .inl rfl⟩ ?_
    rintro t n ⟨calm, state⟩
    have policy : t.policyInForce = .hold := by rw [calm.policyInForce, hold]
    have mild : t.policyInForce ≠ .follow := by simp [policy]
    refine ⟨calm.trans (State.Mild.carryLoss mild n), ?_⟩
    cases loses : t.lossDue n with
    | false => rwa [State.carryLoss_of_not_due loses]
    | true => exact .inr ((State.carryLoss_state mild loses).2 policy (by rwa [calm.inEffect]))
  obtain same | frozen := kept.2
  · have none := u.carryLosses_anyLossDue
    rw [same, due] at none
    exact nomatch none
  · exact frozen

theorem State.afterLosses_seq (u : State) : u.afterLosses.seq = u.carryLosses.seq := by
  rw [State.afterLosses, State.carryEvaluation_seq]

end

/-! ### The orders that are drawn -/

section
variable (s : State) (x : SampleInputs)

/-- The state in which SEQ's work begins, with an order drawn. -/
def State.drawn : State := (s.atWork x).setFreeCount (s.freeCount + 1)

theorem State.drawn_ahead : (s.atWork x).Ahead (s.drawn x) := .setFreeCount _ _

theorem State.countOrder_atWork : (s.atWork x).countOrder = s.drawn x := by
  rw [State.countOrder, State.atWork_freeCount]
  rfl

variable {s x}

theorem State.drawn_losses_ahead (mild : s.policyInForce ≠ .follow) (works : s.mayWork = true) :
    (s.atWork x).Ahead (s.drawn x).afterLosses :=
  .losses _ (by rwa [State.atWork_policyInForce]) (by rwa [State.atWork_mayWork])

/-- A trip that is disputed and comes first keeps SEQ from its work (R49, R91). -/
theorem State.worked_of_trip_first (ready : s.ready) (disputed : s.tripDisputed)
    (first : Config.freeOrder s.freeCount = true) : s.worked x = (s.drawn x).withheldWork := by
  rw [State.worked, State.orderedWork, if_pos ((State.tripMeetsWork_atWork_iff x ready).2 disputed),
    State.atWork_freeCount, if_pos first, State.countOrder_atWork]

/-- A trip that is disputed and comes second finds SEQ's work done (R49, R91). -/
theorem State.worked_of_trip_second (ready : s.ready) (disputed : s.tripDisputed)
    (second : Config.freeOrder s.freeCount = false) (alone : ¬ s.lossAhead ∨ s.policyInForce = .follow) :
    s.worked x = (s.drawn x).stepWork s.ctb.nextAdvance := by
  have unmet : (s.drawn x).lossMeetsWork = false := by
    refine Bool.eq_false_iff.2 fun meets => ?_
    obtain ⟨-, loss, follow⟩ := (State.lossMeetsWork_atWork_iff x ready).1 meets
    exact alone.elim (· loss) fun follows => follow ⟨follows, disputed.1⟩
  rw [State.worked, State.orderedWork, if_pos ((State.tripMeetsWork_atWork_iff x ready).2 disputed),
    State.atWork_freeCount, if_neg (by simp [second]), State.countOrder_atWork, State.workAndLosses, unmet,
    if_neg (by decide)]

/-- A loss that meets SEQ's work comes before it or after it (R155, R164). -/
theorem State.worked_of_loss (ready : s.ready) (undisputed : ¬ s.tripDisputed) (works : s.mayWork = true)
    (loss : s.lossAhead) (alone : ¬ (s.policyInForce = .follow ∧ s.tripAhead)) : s.worked x
      = if Config.freeOrder s.freeCount = false then (s.drawn x).stepWork s.ctb.nextAdvance
        else if s.policyInForce = .follow then (s.drawn x).withheldWork
        else (s.drawn x).afterLosses.stepWork s.ctb.nextAdvance := by
  have policy : (s.drawn x).policyInForce = s.policyInForce := State.atWork_policyInForce x s
  rw [State.worked, State.orderedWork, if_neg ((State.tripMeetsWork_atWork_iff x ready).not.2 undisputed),
    State.workAndLosses, if_pos ((State.lossMeetsWork_atWork_iff x ready).2 ⟨works, loss, alone⟩),
    State.atWork_freeCount, State.countOrder_atWork, State.lossThenWork, policy]
  cases Config.freeOrder s.freeCount <;> rfl

/-- Without a disputed trip, and a loss that meets SEQ's work, that work is all there is. -/
theorem State.worked_of_no_order (ready : s.ready) (undisputed : ¬ s.tripDisputed)
    (alone : ¬ s.lossAhead ∨ (s.policyInForce = .follow ∧ s.tripAhead)) :
    s.worked x = (s.atWork x).stepWork s.ctb.nextAdvance := by
  have unmet : ¬ (s.atWork x).lossMeetsWork = true := fun meets => by
    obtain ⟨-, loss, follow⟩ := (State.lossMeetsWork_atWork_iff x ready).1 meets
    exact alone.elim (· loss) follow
  rw [State.worked, State.orderedWork, if_neg ((State.tripMeetsWork_atWork_iff x ready).not.2 undisputed),
    State.workAndLosses, if_neg unmet]

end

end Sys2Proof.Machine
end

section
/-! PROOFS. The duration and the retest under HOLD (O23), and the orders of a trip or a loss and SEQ's work (O24). -/

namespace Sys2Proof.Machine

section
variable {s u : State} {x : SampleInputs} {r : StepRecord}

theorem State.Runs.mayWork (active : s.seq.state = .active) : s.mayWork = true := by simp [State.mayWork, active]

/-- A step in effect works on in some state, marked by losses or not; a record in trouble is so in it (R89). -/
theorem State.worked_of_hold (ready : s.ready) (active : s.seq.state = .active) (hold : s.policyInForce = .hold)
    (undisputed : ¬ s.tripDisputed) : ∃ u, (s.atWork x).Ahead u ∧ s.worked x = u.stepWork s.ctb.nextAdvance
      ∧ (s.troubled = true → u.troubled = true)
      ∧ (¬ s.lossAhead → u.troubled = s.troubled ∧ u.seq.state = .active) := by
  have mild : s.policyInForce ≠ .follow := by simp [hold]
  have works : s.mayWork = true := State.Runs.mayWork active
  have trouble : (s.drawn x).troubled = s.troubled := s.atWork_troubled x
  by_cases loss : s.lossAhead
  · have worked := State.worked_of_loss (x := x) ready undisputed works loss (by simp [hold])
    cases order : Config.freeOrder s.freeCount with
    | false =>
      rw [if_pos order] at worked
      exact ⟨_, s.drawn_ahead x, worked, fun h => trouble.trans h, absurd loss⟩
    | true =>
      rw [if_neg (by simp [order]), if_neg mild] at worked
      exact ⟨_, State.drawn_losses_ahead mild works, worked,
        fun h => State.afterLosses_troubled (trouble.trans h), absurd loss⟩
  · refine ⟨_, .setFreeCount _ (s.atWork x).freeCount, State.worked_of_no_order ready undisputed (.inl loss),
      fun h => (s.atWork_troubled x).trans h, fun _ => ⟨s.atWork_troubled x, ?_⟩⟩
    rw [State.setFreeCount_seq, State.atWork_seq, active]

/-- Settles O23: a step in effect works by `State.Runs.stepWork_seq`, in the state at work or in one that losses have
marked (`State.worked_of_hold`). -/
theorem durationAndHoldRetest : Obligations.DurationAndHoldRetest := by
  unfold Obligations.DurationAndHoldRetest
  refine ⟨fun s x r ready open' image retest state => ?_,
    fun s x r ready image retest active live hold undisputed => ?_⟩
  · have runs : s.Runs r := ⟨state, image⟩
    have stays : (s.atWork x).retested = s.seq.state := by
      rw [State.retested_of_no_retest (by rw [State.atWork_seq, retest]), State.atWork_seq]
    have seq := (runs.atWork (x := x)).stepWork_seq (a := s.ctb.nextAdvance)
    rw [← State.worked_of_undisputed ready open', stays, State.atWork_seq] at seq
    refine ⟨s.sample x, exec_sampleEvent_of_ready ready x, ?_⟩
    rw [State.sample_seq, seq]
    exact ⟨rfl, image, rfl, rfl, rfl, rfl, rfl⟩
  · have runs : s.Runs r := ⟨.inl active, image⟩
    obtain ⟨u, ahead, worked, trouble, calm⟩ := State.worked_of_hold (x := x) ready active hold undisputed
    have goes := State.worked_goesOn (x := x) runs.noStart
    have seq := (ahead.runs runs.atWork).stepWork_seq (a := s.ctb.nextAdvance)
    have again : u.seq.retest = true := by rw [ahead.seq, State.atWork_seq, retest]
    have progress : u.seq.progress = s.seq.progress := by rw [ahead.seq, State.atWork_seq]
    rw [← worked] at seq
    refine ⟨s.sample x, exec_sampleEvent_of_ready ready x, by rw [State.sample_seq, seq], fun troubled => ?_,
      fun calmed none => ?_⟩
    · have frozen : u.retested = .frozen := by
        rw [State.retested, again, trouble (State.troubled_iff.2 troubled)]
        obtain state | state := (ahead.runs runs.atWork).state <;> simp [state]
      have stopped : (s.worked x).seq.state = .frozen := by rw [seq, frozen]
      obtain ⟨c, ctb⟩ := goes.ctb
      obtain ⟨level₀, -, safe₀⟩ := s.atWork_levels x
      refine ⟨by rw [State.sample_seq, stopped], ?_, ?_, fun safe => ?_⟩
      · rw [State.sample_seq, seq, frozen]
        simp [progress]
      · rw [State.sample_ctb, ctb, Ctb.rampStep_of_rest (.inr (decide_eq_true stopped))]
        exact (s.atWork_ctb_f x).1
      · rw [State.sample_syn, Syn.present_level, goes.syn,
          Syn.levelStep_of_rest (safe₀.trans safe) (.inr (decide_eq_true stopped)), level₀]
    · obtain ⟨same, still⟩ := calm none
      have quiet : s.troubled = false := State.troubled_eq_false_iff.2 calmed
      rw [State.sample_seq, seq, State.retested, if_neg (by simp [same, quiet]), still]

end

end Sys2Proof.Machine
end

section
/-! PROOFS. The orders of a trip or a loss and SEQ's work of the sample (O24). -/

namespace Sys2Proof.Machine

section
variable {s u : State} {x : SampleInputs} {r : StepRecord} {a : Advance}

/-! ### What every order keeps -/

theorem State.stepWork_holds (u : State) (a : Advance) : (u.stepWork a).seq.pointer = u.seq.pointer
    ∧ (u.stepWork a).seq.image = u.seq.image := by
  cases starts : u.starting a with
  | some r =>
    obtain ⟨retest, seq⟩ := (State.starts_stepWork starts).seq
    rw [seq]
    exact ⟨rfl, rfl⟩
  | none => exact ⟨State.stepWork_pointer starts, (State.goesOn_stepWork starts).image⟩

/-- No sample moves the pointer or lets go of the step in hand. -/
theorem State.worked_holds (s : State) (x : SampleInputs) : (s.worked x).seq.pointer = s.seq.pointer
    ∧ (s.worked x).seq.image = s.seq.image := by
  have still : (s.atWork x).seq.pointer = s.seq.pointer ∧ (s.atWork x).seq.image = s.seq.image := by
    rw [State.atWork_seq]
    exact ⟨rfl, rfl⟩
  obtain ⟨u, ahead, work | withheld⟩ := (s.atWork x).orderedWork_of_ahead s.ctb.nextAdvance
  · rw [State.worked, work, (u.stepWork_holds _).1, (u.stepWork_holds _).2, ahead.seq]
    exact still
  · rw [State.worked, withheld, State.withheldWork_seq, ahead.seq]
    exact still

theorem State.worked_tripDue (s : State) (x : SampleInputs) :
    (s.worked x).ftu.tripDue = (s.atWork x).ftu.tripDue := by
  obtain ⟨r, -, started⟩ | goes := s.worked_starts_or_goesOn x
  · rw [started.ftu]
    rfl
  · rw [goes.ftu]

/-- An own trip that the sample makes due is due after it (R151). -/
theorem State.sample_tripDue (ready : s.ready) (trip : s.tripAhead) : (s.sample x).ftu.tripDue = true := by
  rw [State.sample_ftu_eq]
  exact (s.worked_tripDue x).trans ((State.tripDue_atWork_iff x ready).2 trip)

theorem State.stepWork_anyLossDue (u : State) (a : Advance) : (u.stepWork a).anyLossDue = u.anyLossDue :=
  State.anyLossDue_congr fun n => State.lossDue_congr (u.stepWork_stc a) (by rw [State.stepWork_ptb])
    (by rw [State.stepWork_ptb])

theorem State.withheldWork_anyLossDue (u : State) : u.withheldWork.anyLossDue = u.anyLossDue :=
  State.anyLossDue_congr fun n => State.lossDue_congr u.withheldWork_stc (by rw [State.withheldWork_ptb])
    (by rw [State.withheldWork_ptb])

theorem State.sample_anyLossDue (s : State) (x : SampleInputs) : (s.sample x).anyLossDue = (s.worked x).anyLossDue :=
  State.anyLossDue_congr fun n => State.lossDue_congr (by simp) (by rw [State.sample_ptb]) (by rw [State.sample_ptb])

theorem State.drawn_anyLossDue (ready : s.ready) (loss : s.lossAhead) : (s.drawn x).anyLossDue = true :=
  (State.anyLossDue_atWork_iff x ready).2 loss

theorem State.afterLosses_freeCount (mild : u.policyInForce ≠ .follow) : u.afterLosses.freeCount = u.freeCount := by
  rw [State.afterLosses, State.carryEvaluation_freeCount, (State.Mild.carryLosses mild).freeCount]

/-! ### The work withheld -/

/-- Work withheld leaves SEQ, JNT and the settings as they were at work, and the slots advanced (R49, R91). -/
structure State.Withheld (s t : State) : Prop where
  freeCount : t.freeCount = s.freeCount + 1
  state : t.seq.state = s.seq.state
  progress : t.seq.progress = s.seq.progress
  awaitOpen : t.seq.awaitOpen = s.seq.awaitOpen
  gate : t.jnt.gate = s.jnt.gate
  jnt : s.jnt.gate = .idle → t.jnt = s.jnt
  ovl : t.ovl = s.ovl.advance
  profile : t.syn.profile = s.syn.profile
  limit : t.ftu.limit = s.ftu.limit
  uncounted : s.countsNoCycle t

theorem State.sample_withheld (withheld : s.worked x = (s.drawn x).withheldWork) : s.Withheld (s.sample x) := by
  have seq : (s.sample x).seq = (s.atWork x).seq := by
    rw [State.sample_seq, withheld, State.withheldWork_seq]
    rfl
  have ftu : (s.sample x).ftu = { (s.atWork x).ftu with phi := (s.sample x).ftu.phi } := by
    rw [State.sample_ftu_eq, withheld, State.withheldWork_ftu]
    rfl
  rw [State.atWork_seq] at seq
  rw [State.atWork_ftu_eq] at ftu
  refine ⟨?_, by rw [seq], by rw [seq], by rw [seq], ?_, fun idle => ?_, ?_, ?_, by rw [ftu], by rw [seq], by rw [ftu]⟩
  · rw [State.sample_freeCount, withheld, State.withheldWork_freeCount]
    rfl
  · rw [State.sample_jnt, withheld, State.withheldWork_jnt]
    have jnt : (s.drawn x).jnt = s.atAdvance.jnt := s.atWork_jnt x
    rw [jnt, State.atAdvance_jnt]
    split <;> rfl
  · rw [State.sample_jnt, withheld, State.withheldWork_jnt]
    exact State.atWork_jnt_of_idle idle
  · rw [State.sample_ovl, withheld, ((s.drawn x).goesOn_withheldWork).ovl]
    exact congrArg Ovl.advance (s.atWork_ovl x)
  · have stands : (s.drawn x).syn.profile = s.syn.profile := by
      have syn : (s.drawn x).syn = (s.atWork x).syn := rfl
      rw [syn, State.atWork_syn]
    rw [State.sample_syn, Syn.present_profile, withheld, ((s.drawn x).goesOn_withheldWork).syn, Syn.levelStep_profile,
      stands]

theorem State.sample_withheld_loss (ready : s.ready) (withheld : s.worked x = (s.drawn x).withheldWork)
    (loss : s.lossAhead) : (s.sample x).anyLossDue = true := by
  rw [State.sample_anyLossDue, withheld, State.withheldWork_anyLossDue, State.drawn_anyLossDue ready loss]

/-! ### The cycle counted -/

/-- A step in effect whose work is done has the cycle of the own wrap counted to it (R144, R150). -/
theorem State.countsCycle_of_work (runs : s.Runs r) (ahead : (s.atWork x).Ahead u)
    (worked : s.worked x = u.stepWork s.ctb.nextAdvance) (wrap : s.ctb.nextAdvance.ownWrap = true) :
    s.countsCycle (s.sample x) := by
  have works := ahead.runs runs.atWork
  have lrms : u.fbm.lastLrms = s.fbm.closedLrms s.stc.setup.pNom := by
    rw [ahead.fbm, State.atWork_lastLrms wrap]
  have tally : (s.sample x).seq.tally = s.seq.tally.count (s.fbm.closedLrms s.stc.setup.pNom) := by
    rw [State.sample_seq, worked, works.stepWork_seq, wrap, lrms, ahead.seq, State.atWork_seq]
    rfl
  have folded : (s.sample x).ftu.foldedCycles
      = if s.cycleFolded = true then satAdd 255 s.ftu.foldedCycles 1 else s.ftu.foldedCycles := by
    have same : u.cycleFolded = s.cycleFolded := by
      rw [State.cycleFolded, ahead.syn, ahead.ftu]
      exact s.atWork_cycleFolded x
    have count : u.ftu.foldedCycles = s.ftu.foldedCycles := by rw [ahead.ftu, State.atWork_ftu_eq]
    rw [State.sample_ftu_eq, worked]
    dsimp only
    rw [State.stepWork_foldedCycles works.starting, works.inEffect, wrap, same, count, Bool.true_and, Bool.true_and]
  obtain ⟨cycles, first, more⟩ := Tally.count_eq s.seq.tally (s.fbm.closedLrms s.stc.setup.pNom)
  unfold State.countsCycle
  rw [tally, folded]
  refine ⟨cycles, first, more, ?_⟩
  simp [State.cycleFolded, satAdd]

end

end Sys2Proof.Machine
end

section
/-! PROOFS. Either order of a trip or a loss and SEQ's work, sample by sample (O24). -/

namespace Sys2Proof.Machine

section
variable {s u : State} {x : SampleInputs} {r : StepRecord} {a : Advance}

theorem State.policyInForce_of_waiting (h : s.seq.state = .armed ∨ s.seq.state = .gathering) :
    s.policyInForce = s.stc.setup.policy := by
  rw [State.policyInForce, if_neg]
  obtain state | state := h <;> simp [State.inEffect, state]

theorem State.mayWork_of_waiting (h : s.seq.state = .armed ∨ s.seq.state = .gathering) : s.mayWork = true := by
  obtain state | state := h <;> simp [State.mayWork, state]

theorem State.tripDisputed_of_waiting (h : s.seq.state = .armed ∨ s.seq.state = .gathering) (trip : s.tripAhead) :
    s.tripDisputed := by
  obtain state | state := h
  · exact ⟨trip, .inl state⟩
  · exact ⟨trip, .inr (.inl state)⟩

theorem State.sample_image (s : State) (x : SampleInputs) : (s.sample x).seq.image = s.seq.image := by
  rw [State.sample_seq, (s.worked_holds x).2]

theorem State.sample_pointer (s : State) (x : SampleInputs) : (s.sample x).seq.pointer = s.seq.pointer := by
  rw [State.sample_seq, (s.worked_holds x).1]

/-! ### The work done in a drawn order -/

/-- SEQ's work of a sample on which an order was drawn: the losses due are carried out before it, or are due still. -/
structure State.WorksAs (s : State) (x : SampleInputs) (u : State) (carried : Bool) : Prop where
  ahead : (s.atWork x).Ahead u
  worked : s.worked x = u.stepWork s.ctb.nextAdvance
  freeCount : u.freeCount = s.freeCount + 1
  before : carried = true → u = (s.drawn x).afterLosses
  after : carried = false → u = s.drawn x

theorem State.worksAs_drawn (worked : s.worked x = (s.drawn x).stepWork s.ctb.nextAdvance) :
    s.WorksAs x (s.drawn x) false :=
  ⟨s.drawn_ahead x, worked, rfl, nofun, fun _ => rfl⟩

/-- A disputed trip withholds SEQ's work, or finds it done, as the order is drawn (R49, R91). -/
theorem State.trip_withholds_or_works (ready : s.ready) (disputed : s.tripDisputed)
    (alone : ¬ s.lossAhead ∨ s.policyInForce = .follow) :
    (Config.freeOrder s.freeCount = true ∧ s.worked x = (s.drawn x).withheldWork)
      ∨ (Config.freeOrder s.freeCount = false ∧ s.WorksAs x (s.drawn x) false) := by
  cases order : Config.freeOrder s.freeCount with
  | true => exact .inl ⟨rfl, State.worked_of_trip_first ready disputed order⟩
  | false => exact .inr ⟨rfl, State.worksAs_drawn (State.worked_of_trip_second ready disputed order alone)⟩

/-- A loss under FOLLOW that comes first withholds SEQ's work; any other meets it, carried out before it or due still
(R155, R164). -/
theorem State.loss_withholds_or_works (ready : s.ready) (undisputed : ¬ s.tripDisputed) (works : s.mayWork = true)
    (loss : s.lossAhead) (alone : ¬ (s.policyInForce = .follow ∧ s.tripAhead)) :
    ((s.policyInForce = .follow ∧ Config.freeOrder s.freeCount = true) ∧ s.worked x = (s.drawn x).withheldWork)
      ∨ (¬ (s.policyInForce = .follow ∧ Config.freeOrder s.freeCount = true)
          ∧ ∃ u, s.WorksAs x u (Config.freeOrder s.freeCount)) := by
  have worked := State.worked_of_loss (x := x) ready undisputed works loss alone
  cases order : Config.freeOrder s.freeCount with
  | false =>
    rw [if_pos order] at worked
    exact .inr ⟨fun first => Bool.noConfusion first.2, _, State.worksAs_drawn worked⟩
  | true =>
    rw [if_neg (by simp [order])] at worked
    by_cases follow : s.policyInForce = .follow
    · rw [if_pos follow] at worked
      exact .inl ⟨⟨follow, rfl⟩, worked⟩
    · rw [if_neg follow] at worked
      have policy : (s.drawn x).policyInForce = s.policyInForce := s.atWork_policyInForce x
      exact .inr ⟨fun first => follow first.1, _, State.drawn_losses_ahead follow works, worked,
        State.afterLosses_freeCount (by rwa [policy]), fun _ => rfl, nofun⟩

/-- The step in effect is in the state that the losses have left it in, and counts the sample in ACTIVE. -/
theorem State.Runs.sample_of_work (runs : s.Runs r) (retest : s.seq.retest = false) (ahead : (s.atWork x).Ahead u)
    (worked : s.worked x = u.stepWork s.ctb.nextAdvance) :
    (s.sample x).seq.state = u.seq.state
      ∧ (s.sample x).seq.progress = s.seq.progress
          + (if u.seq.state = .active ∧ (r.unit = .samples ∨ s.ctb.nextAdvance.ownWrap = true) then 1 else 0)
      ∧ (s.ctb.nextAdvance.ownWrap = true → s.countsCycle (s.sample x)) := by
  have still : u.retested = u.seq.state :=
    State.retested_of_no_retest (by rw [ahead.seq, State.atWork_seq, retest])
  have progress : u.seq.progress = s.seq.progress := by rw [ahead.seq, State.atWork_seq]
  have seq := (ahead.runs runs.atWork).stepWork_seq (a := s.ctb.nextAdvance)
  rw [← worked, still] at seq
  refine ⟨by rw [State.sample_seq, seq], ?_, State.countsCycle_of_work runs ahead worked⟩
  rw [State.sample_seq, seq, progress]
  dsimp only
  split <;> rfl

namespace State.WorksAs

variable {carried : Bool}

theorem sample_freeCount (h : s.WorksAs x u carried) : (s.sample x).freeCount = s.freeCount + 1 := by
  rw [State.sample_freeCount, h.worked, State.stepWork_freeCount, h.freeCount]

theorem sample_anyLossDue (h : s.WorksAs x u carried) (ready : s.ready) (loss : s.lossAhead) :
    (s.sample x).anyLossDue = !carried := by
  rw [State.sample_anyLossDue, h.worked, State.stepWork_anyLossDue]
  cases carried with
  | false => rw [h.after rfl, State.drawn_anyLossDue ready loss, Bool.not_false]
  | true => rw [h.before rfl, State.afterLosses_anyLossDue, Bool.not_true]

/-- The record of a peer that the common wrap ages to a loss. -/
theorem sample_peer (h : s.WorksAs x u carried) (loss : s.lossAhead) {n : Station} (expected : s.expectedPeer n = true)
    (present : (s.ptb.peer n).state = .present) (old : 7 ≤ (s.ptb.peer n).age) :
    ((s.sample x).ptb.peer n).state = if carried = true then .lost else .present := by
  have due : (s.drawn x).lossDue n = true := (State.lossDue_atWork_iff x loss.1).2 ⟨expected, present, old⟩
  have kept : ((s.drawn x).ptb.peer n).state = .present := by
    have ptb : (s.drawn x).ptb = s.atAdvance.ptb := s.atWork_ptb x
    rw [ptb, State.atAdvance_peer_state, present]
  rw [State.sample_ptb, h.worked, State.stepWork_ptb]
  cases carried with
  | false => rw [h.after rfl, kept, if_neg (by decide)]
  | true => rw [h.before rfl, (State.afterLosses_peer n).1, if_pos due, if_pos rfl]

/-- The step starts. -/
theorem sample_started (h : s.WorksAs x u carried) (starts : s.startsOn r) : (s.sample x).seq.state = .active
    ∧ (s.sample x).jnt.gate = .idle ∧ (s.sample x).ovl = s.ovl.advance.applyAll r.overlays := by
  have starting : u.starting s.ctb.nextAdvance = some r :=
    h.ahead.starting.trans ((State.starting_atWork_iff x).2 starts)
  have started := h.ahead.starts (State.starts_stepWork starting)
  obtain ⟨retest, seq⟩ := started.seq
  refine ⟨?_, ?_, ?_⟩
  · rw [State.sample_seq, h.worked, seq]
    rfl
  · rw [State.sample_jnt, h.worked, started.gate]
  · rw [State.sample_ovl, h.worked, started.ovl, State.atWork_ovl]

theorem sample_runs (h : s.WorksAs x u carried) (runs : s.Runs r) (retest : s.seq.retest = false) :
    (s.sample x).seq.state = u.seq.state
      ∧ (s.sample x).seq.progress = s.seq.progress
          + (if u.seq.state = .active ∧ (r.unit = .samples ∨ s.ctb.nextAdvance.ownWrap = true) then 1 else 0)
      ∧ (s.ctb.nextAdvance.ownWrap = true → s.countsCycle (s.sample x)) :=
  runs.sample_of_work retest h.ahead h.worked

end State.WorksAs

/-! ### The await gate -/

theorem State.Ahead.awaits {v u : State} (h : v.Ahead u) (k : v.Awaits r) : u.Awaits r := by
  have state : u.seq.state = v.seq.state := by
    obtain same | ⟨before, -⟩ := h.state
    · exact same
    · rw [k.armed] at before
      exact absurd before (by simp)
  exact ⟨state.trans k.armed, h.image.trans k.image, by rw [h.seq, k.closed]⟩

/-- The gate opens on the sample, whatever losses came before it. -/
theorem State.WorksAs.sample_opens {carried : Bool} (h : s.WorksAs x u carried) (awaits : s.Awaits r)
    (idle : s.jnt.gate = .idle) (wrap : s.ctb.nextAdvance.ownWrap = true)
    (levels : awaitMet x.in0 x.in1 r.awaited = true) :
    (r.joint = none → (s.sample x).seq.state = .armed ∧ (s.sample x).seq.awaitOpen = true ∧ (s.sample x).jnt = s.jnt)
      ∧ ∀ j, r.joint = some j → (s.sample x).seq.state = .gathering
          ∧ ∃ name, (s.setPtb (s.sample x).ptb).opensGate (s.sample x) j name := by
  have waits := h.ahead.awaits awaits.atWork
  have met : State.Awaits.met u s.ctb.nextAdvance r := by
    have atWork := (State.met_atWork_iff (x := x) (r := r)).2 ⟨wrap, levels⟩
    unfold State.Awaits.met at *
    rwa [h.ahead.seq]
  refine ⟨fun plain => ?_, fun j joint => ?_⟩
  · obtain ⟨seq, jnt, -⟩ := waits.stepWork_of_plain met plain
    have gate : u.jnt = s.jnt := by
      rw [← State.atWork_jnt_of_idle (x := x) idle]
      refine h.ahead.gate.resolve_right fun opened => ?_
      rw [State.atWork_jnt_of_idle idle, idle] at opened
      exact nomatch opened.1
    rw [State.sample_seq, State.sample_jnt, h.worked, seq, jnt, gate]
    exact ⟨waits.armed, rfl, rfl⟩
  · obtain ⟨name, opens, seq, -⟩ := waits.stepWork_of_joint met joint
    have ptb : (s.sample x).ptb = u.ptb := by rw [State.sample_ptb, h.worked, State.stepWork_ptb]
    refine ⟨by rw [State.sample_seq, h.worked, seq], name, ?_⟩
    refine (opens.congr (State.own_congr (s := s.setPtb (s.sample x).ptb) ?_) (fun n => ?_) fun n => ?_).congr_after ?_ ?_
    · rw [h.ahead.stc, State.atWork_stc]
      rfl
    · rw [State.setPtb_ptb, ptb]
    · rw [State.setPtb_ptb, ptb]
    · rw [State.sample_jnt, h.worked]
    · rw [State.sample_ctb, h.worked]

end

end Sys2Proof.Machine
end

section
/-! PROOFS. Either order of a trip or a loss and SEQ's work: the theorem (O24). -/

namespace Sys2Proof.Machine

section
variable {s u : State} {x : SampleInputs} {r : StepRecord}

/-- An own trip over a step in effect is disputed just when the sample ends the step (R91, R151). -/
theorem State.Runs.tripDisputed_iff (h : s.Runs r) (trip : s.tripAhead) : s.tripDisputed ↔ s.endsNext := by
  refine ⟨fun disputed => ?_, fun ends => ⟨trip, .inr (.inr ends)⟩⟩
  obtain ⟨-, waits | waits | ends⟩ := disputed
  · obtain state | state := h.state <;> rw [waits] at state <;> exact nomatch state
  · obtain state | state := h.state <;> rw [waits] at state <;> exact nomatch state
  · exact ends

/-- Where no loss under HOLD has frozen it, SEQ's state is the drawn one's (R89). -/
theorem State.WorksAs.state_of_ignore {carried : Bool} (h : s.WorksAs x u carried)
    (calm : s.policyInForce = .ignore ∨ carried = false) : u.seq.state = s.seq.state := by
  have seq : (s.drawn x).seq.state = s.seq.state := (congrArg Seq.state (s.atWork_seq x) :)
  cases carried with
  | false => rw [h.after rfl, seq]
  | true =>
    have ignore : (s.drawn x).policyInForce = .ignore :=
      (s.atWork_policyInForce x).trans (calm.resolve_right (by decide))
    rw [h.before rfl, State.afterLosses_seq, State.carryLosses_state_of_ignore ignore, seq]

/-- A loss under HOLD that comes first freezes the step (R89, R164). -/
theorem State.WorksAs.state_of_hold (h : s.WorksAs x u true) (ready : s.ready) (runs : s.Runs r)
    (hold : s.policyInForce = .hold) (loss : s.lossAhead) : u.seq.state = .frozen := by
  have hold' : (s.drawn x).policyInForce = .hold := (s.atWork_policyInForce x).trans hold
  have effect : (s.drawn x).inEffect = true := (s.atWork_inEffect x).trans runs.inEffect
  rw [h.before rfl, State.afterLosses_seq,
    State.carryLosses_state_of_hold hold' effect (State.drawn_anyLossDue ready loss)]

end

section
variable {s : State} {x : SampleInputs} {r : StepRecord}

/-- On the sample that would open an await gate: a trip, or a loss under FOLLOW, that comes first withholds SEQ's work
(R75, R129, R155). -/
theorem State.gate_withholds_or_works (ready : s.ready) (armed : s.seq.state = .armed)
    (either : (s.tripAhead ∧ ¬ s.lossAhead) ∨ (¬ s.tripAhead ∧ s.lossAhead)) :
    ((Config.freeOrder s.freeCount = true ∧ (s.tripAhead ∨ s.stc.setup.policy = .follow))
        ∧ s.worked x = (s.drawn x).withheldWork)
      ∨ (¬ (Config.freeOrder s.freeCount = true ∧ (s.tripAhead ∨ s.stc.setup.policy = .follow))
          ∧ ∃ u c, s.WorksAs x u c) := by
  obtain ⟨trip, noLoss⟩ | ⟨noTrip, loss⟩ := either
  · have disputed := State.tripDisputed_of_waiting (.inl armed) trip
    obtain ⟨first, withheld⟩ | ⟨second, works⟩ := State.trip_withholds_or_works (x := x) ready disputed (.inl noLoss)
    · exact .inl ⟨⟨first, .inl trip⟩, withheld⟩
    · exact .inr ⟨fun first => absurd first.1 (by simp [second]), _, _, works⟩
  · rw [← State.policyInForce_of_waiting (.inl armed)]
    obtain ⟨⟨follow, first⟩, withheld⟩ | ⟨other, u, works⟩ := State.loss_withholds_or_works (x := x) ready
      (fun disputed => noTrip disputed.1) (State.mayWork_of_waiting (.inl armed)) loss fun both => noTrip both.2
    · exact .inl ⟨⟨first, .inr follow⟩, withheld⟩
    · exact .inr ⟨fun first => other ⟨first.2.resolve_left noTrip, first.1⟩, u, _, works⟩

/-- A loss under FOLLOW without a trip, or under IGNORE without a disputed one, is in an order that is drawn. -/
theorem State.order_of_policies
    (policies : (s.policyInForce = .follow ∧ ¬ s.tripAhead) ∨ (s.policyInForce = .ignore ∧ ¬ s.tripDisputed)) :
    ¬ s.tripDisputed ∧ ¬ (s.policyInForce = .follow ∧ s.tripAhead)
      ∧ (¬ (s.policyInForce = .follow ∧ Config.freeOrder s.freeCount = true) →
          s.policyInForce = .ignore ∨ Config.freeOrder s.freeCount = false) := by
  obtain ⟨follow, noTrip⟩ | ⟨ignore, undisputed⟩ := policies
  · exact ⟨fun disputed => noTrip disputed.1, fun both => noTrip both.2,
      fun other => .inr (Bool.eq_false_iff.2 fun first => other ⟨follow, first⟩)⟩
  · exact ⟨undisputed, fun both => by simp [ignore] at both, fun _ => .inl ignore⟩

/-- A trip over a step in effect on a sample that does not end it: the work is done, and nothing is drawn (R151). -/
theorem State.Runs.sample_of_trip (runs : s.Runs r) (ready : s.ready) (retest : s.seq.retest = false)
    (trip : s.tripAhead) (alone : ¬ s.lossAhead ∨ s.policyInForce = .follow) (ends : ¬ s.endsNext) :
    (s.sample x).freeCount = s.freeCount ∧ (s.sample x).seq.state = s.seq.state
      ∧ (s.sample x).seq.progress = s.seq.progress + (if s.seq.state = .active then 1 else 0)
      ∧ s.countsCycle (s.sample x) := by
  have undrawn : (s.atWork x).seq.state = s.seq.state := (congrArg Seq.state (s.atWork_seq x) :)
  have worked := State.worked_of_no_order (x := x) ready ((runs.tripDisputed_iff trip).not.2 ends)
    (alone.imp id (⟨·, trip⟩))
  obtain ⟨state, progress, counted⟩ := runs.sample_of_work retest
    (State.Ahead.setFreeCount _ (s.atWork x).freeCount) worked
  rw [State.setFreeCount_seq, undrawn] at state progress
  refine ⟨?_, state, ?_, counted trip.1⟩
  · rw [State.sample_freeCount, worked, State.stepWork_freeCount, State.atWork_freeCount]
  · simp only [progress, trip.1, or_true, and_true]

end

/-- Settles O24: an order drawn withholds SEQ's work (`State.sample_withheld`), or leaves it in a state that losses
have marked or not (`State.WorksAs`). -/
theorem coincidentEventsTakeEitherOrder : Obligations.CoincidentEventsTakeEitherOrder := by
  unfold Obligations.CoincidentEventsTakeEitherOrder
  refine ⟨fun s x r ready starts trip noLoss => ?_, fun s x r ready starts noTrip loss => ?_,
    fun s x r ready active image retest hold undisputed loss counts => ?_,
    fun s x r ready image retest state trip alone => ?_,
    fun s x r ready image retest active loss policies => ?_,
    fun s x r ready armed image closed retest idle wrap levels either => ?_⟩
  · have image := (s.sample_image x).trans starts.image
    have due := State.sample_tripDue (x := x) ready trip
    obtain ⟨first, withheld⟩ | ⟨second, works⟩ := State.trip_withholds_or_works (x := x) ready
      (State.tripDisputed_of_waiting starts.state trip) (.inl noLoss)
    · have kept := State.sample_withheld withheld
      exact ⟨s.sample x, exec_sampleEvent_of_ready ready x, kept.freeCount, due, s.sample_pointer x, image,
        fun _ => ⟨kept.state, kept.gate, kept.ovl, kept.profile, kept.limit⟩, fun second => by simp [first] at second⟩
    · exact ⟨s.sample x, exec_sampleEvent_of_ready ready x, works.sample_freeCount, due, s.sample_pointer x, image,
        fun first => by simp [second] at first, fun _ => works.sample_started starts⟩
  · have image := (s.sample_image x).trans starts.image
    rw [← State.policyInForce_of_waiting starts.state]
    obtain ⟨⟨follow, first⟩, withheld⟩ | ⟨other, u, works⟩ := State.loss_withholds_or_works (x := x) ready
      (fun disputed => noTrip disputed.1) (State.mayWork_of_waiting starts.state) loss fun both => noTrip both.2
    · have kept := State.sample_withheld withheld
      refine ⟨s.sample x, exec_sampleEvent_of_ready ready x, kept.freeCount, image,
        fun _ _ => ⟨kept.state, kept.gate, kept.ovl, State.sample_withheld_loss ready withheld loss⟩,
        fun other => absurd (other.resolve_left (absurd follow)) (by simp [first]), fun n expected present old => ?_⟩
      have ptb : (s.drawn x).ptb = s.atAdvance.ptb := s.atWork_ptb x
      rw [if_neg (by simp [follow]), State.sample_ptb, withheld, State.withheldWork_ptb, ptb,
        State.atAdvance_peer_state, present]
    · refine ⟨s.sample x, exec_sampleEvent_of_ready ready x, works.sample_freeCount, image,
        fun follow first => absurd ⟨follow, first⟩ other, fun _ => works.sample_started starts,
        fun n expected present old => ?_⟩
      rw [works.sample_peer loss expected present old]
      refine if_congr ?_ rfl rfl
      exact ⟨fun first => ⟨first, fun follow => other ⟨follow, first⟩⟩, And.left⟩
  · have runs : s.Runs r := ⟨.inl active, image⟩
    have unfollowed : s.policyInForce ≠ .follow := by simp [hold]
    obtain ⟨⟨follow, -⟩, -⟩ | ⟨-, u, works⟩ := State.loss_withholds_or_works (x := x) ready undisputed
      (State.Runs.mayWork active) loss fun both => unfollowed both.1
    · exact absurd follow unfollowed
    obtain ⟨state, progress, counted⟩ := works.sample_runs runs retest
    have due := works.sample_anyLossDue ready loss
    refine ⟨s.sample x, exec_sampleEvent_of_ready ready x, works.sample_freeCount, fun first => ?_, fun second => ?_,
      counted⟩
    · rw [first] at works due
      have frozen := works.state_of_hold ready runs hold loss
      rw [state, progress, frozen, due]
      exact ⟨rfl, rfl, rfl⟩
    · rw [second] at works due
      have same := (works.state_of_ignore (.inr rfl)).trans active
      rw [state, progress, same, due, if_pos ⟨rfl, counts⟩]
      exact ⟨rfl, rfl, rfl⟩
  · have runs : s.Runs r := ⟨state, image⟩
    have due := State.sample_tripDue (x := x) ready trip
    have held := (s.sample_image x).trans image
    intro withholds
    by_cases ends : s.endsNext
    · obtain ⟨first, withheld⟩ | ⟨second, works⟩ := State.trip_withholds_or_works (x := x) ready
        ((runs.tripDisputed_iff trip).2 ends) alone
      · have kept := State.sample_withheld withheld
        exact ⟨s.sample x, exec_sampleEvent_of_ready ready x, due, kept.state, held, s.sample_pointer x,
          fun _ => kept.freeCount, absurd ends, fun _ => ⟨kept.progress, kept.uncounted⟩, absurd ⟨ends, first⟩⟩
      · obtain ⟨state', progress, counted⟩ := works.sample_runs runs retest
        rw [works.state_of_ignore (.inr rfl)] at state' progress
        refine ⟨s.sample x, exec_sampleEvent_of_ready ready x, due, state', held, s.sample_pointer x,
          fun _ => works.sample_freeCount, absurd ends, fun first => ?_, fun _ => ⟨?_, counted trip.1⟩⟩
        · exact absurd first.2 (by simp [second])
        · simp only [progress, trip.1, or_true, and_true]
    · obtain ⟨undrawn, state', progress, counted⟩ := runs.sample_of_trip (x := x) ready retest trip alone ends
      exact ⟨s.sample x, exec_sampleEvent_of_ready ready x, due, state', held, s.sample_pointer x,
        fun now => absurd now ends, fun _ => undrawn, fun first => absurd first.1 ends, fun _ => ⟨progress, counted⟩⟩
  · have runs : s.Runs r := ⟨.inl active, image⟩
    have held := (s.sample_image x).trans image
    obtain ⟨undisputed, alone, calm⟩ := State.order_of_policies policies
    intro first wrap
    obtain ⟨⟨follow, first'⟩, withheld⟩ | ⟨other, u, works⟩ := State.loss_withholds_or_works (x := x) ready undisputed
      (State.Runs.mayWork active) loss alone
    · have strict : s.policyInForce ≠ .ignore := by simp [follow]
      have kept := State.sample_withheld withheld
      have due := State.sample_withheld_loss ready withheld loss
      refine ⟨s.sample x, exec_sampleEvent_of_ready ready x, kept.freeCount, kept.state.trans active, held,
        s.sample_pointer x, fun _ => ⟨kept.progress, kept.uncounted, due⟩, fun other => ?_, ?_⟩
      · exact absurd first' (other.resolve_left strict)
      · simp [strict, due]
    · obtain ⟨state, progress, counted⟩ := works.sample_runs runs retest
      have due := works.sample_anyLossDue ready loss
      rw [(works.state_of_ignore (calm other)).trans active] at state progress
      refine ⟨s.sample x, exec_sampleEvent_of_ready ready x, works.sample_freeCount, state, held,
        s.sample_pointer x, fun both => absurd both other, fun _ => ⟨?_, counted⟩, ?_⟩
      · simpa only [true_and] using progress
      · rw [due, Bool.not_eq_false']
        exact ⟨And.right, fun first' => ⟨(calm other).resolve_right (by simp [first']), first'⟩⟩
  · have awaits : s.Awaits r := ⟨armed, image, closed⟩
    have held := (s.sample_image x).trans image
    intro shut
    obtain ⟨now, withheld⟩ | ⟨opens, u, c, works⟩ := State.gate_withholds_or_works (x := x) ready armed either
    · have kept := State.sample_withheld withheld
      exact ⟨s.sample x, exec_sampleEvent_of_ready ready x, kept.freeCount, held, s.sample_pointer x,
        fun _ => ⟨kept.state.trans armed, kept.awaitOpen.trans closed, kept.jnt idle⟩, fun opens => absurd now opens,
        fun opens => absurd now opens⟩
    · obtain ⟨plain, joint⟩ := works.sample_opens awaits idle wrap levels
      exact ⟨s.sample x, exec_sampleEvent_of_ready ready x, works.sample_freeCount, held, s.sample_pointer x,
        fun now => absurd now opens, fun _ => plain, fun _ => joint⟩

end Sys2Proof.Machine
end

section
/-! PROOFS. What O10 says of a sample: the records age in every order, and one MARK is left in the queue unless a loss
is drawn before SEQ's work. -/

namespace Sys2Proof.Machine

/-! ### The MARKs of the queue -/

/-- The MARKs that wait in the queue. -/
def Lnk.marks (l : Lnk) : List TxEntry := l.queue.filter TxEntry.isMark

/-- A frame that is no MARK leaves the MARKs of a queue with room for it. -/
theorem Lnk.marks_offer_frame {l : Lnk} {x : TxItem} (room : l.queue.length < 8)
    (other : ∀ n, ({ order := n, item := x } : TxEntry).isMark = false) :
    (l.offer x).marks.Perm l.marks ∧ (l.offer x).queue.length = l.queue.length + 1 := by
  rw [Lnk.offer_of_room (fun mark => by simp [other] at mark) room]
  have perm := txInsert_perm l.queue { order := l.nextOrder, item := x }
  refine ⟨(perm.filter _).trans ?_, perm.length_eq⟩
  rw [List.filter_cons, if_neg (by simp [other])]
  rfl

/-- A MARK offered to a queue in order with room for it is the one MARK there (R107). -/
theorem Lnk.marks_offer_mark {l : Lnk} (inOrder : l.ordered) (room : l.queue.length < 8) (i : Tick) :
    (l.offer (.mark i)).marks = [{ order := l.nextOrder, item := .mark i }]
      ∧ (l.offer (.mark i)).queue.length ≤ l.queue.length + 1 := by
  obtain ⟨-, single, -⟩ := inOrder
  by_cases queued : l.queue.any TxEntry.isMark = true
  · have replaced : (l.offer (.mark i)).queue
        = l.queue.map fun x => if x.isMark then { order := l.nextOrder, item := .mark i } else x := by
      simp [Lnk.offer, queued]
    have marks : ∀ q : List TxEntry, (q.map fun x => if x.isMark then { order := l.nextOrder, item := .mark i } else x).filter
        TxEntry.isMark = (q.filter TxEntry.isMark).map fun _ => { order := l.nextOrder, item := .mark i } := by
      intro q
      induction q with
      | nil => rfl
      | cons y q ih =>
        rw [List.map_cons, List.filter_cons, List.filter_cons, ih]
        cases mark : y.isMark with
        | true => simp only [if_true, TxEntry.isMark_mark, List.map_cons]
        | false => simp only [Bool.false_eq_true, if_false, mark]
    refine ⟨?_, by rw [replaced, List.length_map]; omega⟩
    rw [Lnk.marks, replaced, marks]
    obtain ⟨y, inQueue, mark⟩ := List.any_eq_true.1 queued
    have some : y ∈ l.queue.filter TxEntry.isMark := List.mem_filter.2 ⟨inQueue, mark⟩
    have one : (l.queue.filter TxEntry.isMark).length = 1 :=
      Nat.le_antisymm single (List.length_pos_of_mem some)
    rw [List.map_const', one]
    rfl
  · have none : ∀ y ∈ l.queue, y.isMark = false := by simpa using queued
    rw [Lnk.offer_of_room (fun _ => none) room]
    have perm := txInsert_perm l.queue { order := l.nextOrder, item := .mark i }
    have filtered : l.queue.filter TxEntry.isMark = [] := List.filter_eq_nil_iff.2 (by simpa using none)
    have marks := perm.filter TxEntry.isMark
    rw [List.filter_cons, if_pos (TxEntry.isMark_mark _ _), filtered] at marks
    exact ⟨List.perm_singleton.1 marks, perm.length_eq.le⟩

/-- A name of a frame that is no MARK. -/
def FrameName.isMark : FrameName → Bool
  | .mark _ => true
  | _ => false

theorem TxEntry.isMark_of_name {x : TxItem} (h : x.name.isMark = false) (n : Nat) :
    ({ order := n, item := x } : TxEntry).isMark = false := by
  cases x with
  | mark i => exact Bool.noConfusion h
  | frame address p => rfl

/-- Frames that are no MARKs leave the MARKs of a queue with room for them all. -/
theorem Lnk.offersNamed.marks {l m : Lnk} {names : List FrameName} (h : l.offersNamed m names)
    (others : ∀ name ∈ names, name.isMark = false) (room : l.queue.length + names.length ≤ 8) :
    m.marks.Perm l.marks := by
  obtain ⟨items, rfl, rfl⟩ := h
  induction items generalizing l with
  | nil => exact .refl _
  | cons x items ih =>
    simp only [List.map_cons, List.mem_cons, List.length_cons, forall_eq_or_imp] at others room
    obtain ⟨first, rest⟩ := others
    obtain ⟨marks, longer⟩ := Lnk.marks_offer_frame (l := l) (x := x) (by omega) (TxEntry.isMark_of_name first)
    exact (ih rest (by rw [longer]; omega)).trans marks

/-! ### The frames of SEQ's work -/

section
variable {u : State} {a : Advance}

/-- The name of the frame with which a gate opens is no MARK's (R129). -/
theorem State.opensGate.notMark {s t : State} {j : JointPart} {name : FrameName} (h : s.opensGate t j name) :
    name.isMark = false := by
  obtain ⟨gate, reason, -, tripped, lost, joined⟩ := h
  by_cases trip : ∃ n : Station, n ≠ s.own ∧ maskHas j.mask n = true ∧ (s.ptb.peer n).tripped = true
  · rw [(tripped trip).2.2]
    rfl
  · by_cases loss : ∃ n : Station, n ≠ s.own ∧ maskHas j.mask n = true ∧ (s.ptb.peer n).state = .lost
    · rw [(lost trip loss).2.2]
      rfl
    · rw [(joined trip loss).2.2]
      rfl

/-- The tests before SEQ's work offer a STATUS FREEZE or nothing (R89). -/
theorem State.prepared_offers (u : State) (a : Advance) :
    (u.prepared a).lnk = u.lnk ∨ (u.seq.retest = true ∧ u.seq.state = .active
      ∧ u.lnk.offersNamed (u.prepared a).lnk [.status .freeze .frozen]) := by
  by_cases tests : u.seq.retest = true ∧ u.seq.state = .active
  · obtain ⟨retest, active⟩ := tests
    have lnk : (u.prepared a).lnk = u.freezeRetest.lnk := by simp [State.prepared]
    rw [lnk, State.freezeRetest, if_pos retest]
    dsimp only
    split
    · refine .inr ⟨retest, active, ?_⟩
      rw [State.freeze_of_active (by exact active)]
      exact Lnk.offersNamed.status (names := []) (Lnk.offersNamed_nil _) rfl
    · exact .inl rfl
  · exact .inl (State.prepared_lnk _ _ (by simpa [Classical.or_iff_not_imp_left] using tests))

theorem State.seqProgress_of_no_image (h : u.seq.image = none) : u.seqProgress a = u := by
  simp only [State.seqProgress, h]

/-- Only an ARMED step's progress offers frames (R75). -/
theorem State.seqProgress_lnk_of_not_armed (h : u.seq.state ≠ .armed) : (u.seqProgress a).lnk = u.lnk := by
  unfold State.seqProgress
  split
  · rfl
  · split
    · rfl
    next armed => exact absurd armed h
    · rfl

/-- SEQ's work of a sample offers at most two frames, no MARK among them, and none where nothing can start, open or be
tested (R77, R89, R129). -/
theorem State.stepWork_offers (u : State) (a : Advance) : ∃ names, u.lnk.offersNamed (u.stepWork a).lnk names
    ∧ (∀ name ∈ names, name.isMark = false) ∧ names.length ≤ 2 ∧ (u.startsNothing → names = []) := by
  have nothing (k : (u.stepWork a).lnk = u.lnk) : ∃ names, u.lnk.offersNamed (u.stepWork a).lnk names
      ∧ (∀ name ∈ names, name.isMark = false) ∧ names.length ≤ 2 ∧ (u.startsNothing → names = []) :=
    ⟨[], k ▸ Lnk.offersNamed_nil _, nofun, by decide, fun _ => rfl⟩
  cases starts : u.starting a with
  | some r =>
    obtain ⟨-, -, waits⟩ := State.starting_eq_some_iff.1 starts
    have state : u.seq.state = .armed ∨ u.seq.state = .gathering := waits.imp And.left And.left
    have offered := (u.prepared a).startStep_lnk a r
    rw [State.prepared_lnk _ _ (.inr (by obtain state | state := state <;> simp [state])),
      ← State.stepWork_of_starting starts] at offered
    exact ⟨_, offered, by simp [FrameName.isMark], by decide, fun still => absurd state (not_or.2 ⟨still.1, still.2.1⟩)⟩
  | none =>
    by_cases armed : u.seq.state = .armed
    · have waits : u.seq.state ≠ .active ∧ u.seq.state ≠ .frozen := by simp [armed]
      cases image : u.seq.image with
      | none =>
        have lnk : ((u.atProgress a).seqProgress a).lnk = u.lnk := by
          obtain ⟨seq, -, lnk⟩ := State.atProgress_of_waiting (a := a) waits.1 waits.2
          rw [State.seqProgress_of_no_image (by rw [seq, image]), lnk]
        exact nothing (by rw [State.stepWork_of_no_start starts]; exact lnk)
      | some r =>
        cases gate : u.seq.awaitOpen with
        | true => exact nothing (State.stepWork_of_still starts waits.1 waits.2 fun _ => gate).2.2
        | false =>
          have awaits : u.Awaits r := ⟨armed, image, gate⟩
          by_cases met : State.Awaits.met u a r
          · cases joint : r.joint with
            | none => exact nothing (awaits.stepWork_of_plain met joint).2.2
            | some j =>
              obtain ⟨name, opens, -, offered⟩ := awaits.stepWork_of_joint met joint
              exact ⟨_, offered, List.forall_mem_cons.2 ⟨rfl, List.forall_mem_singleton.2 opens.notMark⟩, le_refl 2,
                fun still => absurd armed still.1⟩
          · exact nothing (awaits.stepWork_of_shut met).2.2
    · have state : (u.prepared a).rampProgress.seq.state ≠ .armed := by
        rw [State.rampProgress_seq, State.prepared_seq]
        dsimp only
        split
        · nofun
        · exact armed
      have lnk : (u.stepWork a).lnk = (u.prepared a).lnk := by
        rw [State.stepWork_of_no_start starts, State.seqProgress_lnk_of_not_armed state, State.rampProgress_lnk]
      obtain same | ⟨retest, active, offered⟩ := u.prepared_offers a
      · exact nothing (lnk.trans same)
      · exact ⟨_, lnk ▸ offered, by simp [FrameName.isMark], by decide,
          fun still => by simp [still.2.2] at retest⟩

end

end Sys2Proof.Machine
end

section
/-! PROOFS. The records age on a common wrap in every order (the second half of O10); one MARK is left in the queue
unless a loss is drawn before SEQ's work (its first half). -/

namespace Sys2Proof.Machine

section
variable {s : State} {x : SampleInputs}

/-! ### The records on a sample -/

/-- Ageing makes no error that a capture could be made with (R122, R126). -/
theorem State.noCapture.marked (h : s.noCapture) (a : Advance) : ((s.setCtb s.ctb.advance).marked a).noCapture := by
  refine h.imp id fun errors n expected below fresh => ?_
  have peer : (s.ptb.aged s.own).peer n = if n = s.own then s.ptb.peer n else (s.ptb.peer n).aged := Ptb.peer_aged _ _ _
  have aged : ((s.ptb.aged s.own).peer n).error = (s.ptb.peer n).error
      ∧ (((s.ptb.aged s.own).peer n).fresh = true → (s.ptb.peer n).fresh = true) := by
    rw [peer, PeerRecord.aged]
    split
    · exact ⟨rfl, id⟩
    · split
      · exact ⟨rfl, id⟩
      · exact ⟨rfl, fun fresh => (Bool.and_eq_true_iff.1 fresh).1⟩
  have same := errors n expected below (aged.2 fresh)
  rw [← aged.1] at same
  exact same

theorem State.carryEvaluation_ptb {s : State} (h : ∀ lock, s.captureError lock = none) :
    s.carryEvaluation.ptb = s.ptb := by
  unfold State.carryEvaluation
  split
  · split
    · rfl
    · exact State.evaluateLock_ptb (s := s.setLck { s.lck with waiting := none }) (h _)
  · rfl

/-- Without a capture a common wrap ages the records, and no other sample changes one (R122). -/
theorem State.atAdvance_ptb (quiet : s.noCapture) :
    s.atAdvance.ptb = if s.ctb.nextAdvance.commonWrap = true then s.ptb.aged s.own else s.ptb := by
  unfold State.atAdvance
  split
  · rw [((s.setCtb s.ctb.advance).commonWrap_carryEvaluation _).2.1]
    exact State.carryEvaluation_ptb (State.captureError_of_noCapture (quiet.marked s.ctb.nextAdvance))
  · rfl

/-- The records after a sample: as the advance has left them, or with the losses of the wrap carried out before SEQ's
work. -/
theorem State.sample_peer (ready : s.ready) (n : Station) : (s.sample x).ptb.peer n = s.atAdvance.ptb.peer n
    ∨ (s.mayWork = true ∧ (s.atWork x).lossDue n = true
        ∧ (s.sample x).ptb.peer n = { s.atAdvance.ptb.peer n with state := .lost }) := by
  rw [State.sample_ptb]
  obtain ⟨m, works⟩ | ⟨-, works, mild, m, worked⟩ := State.worked_cases x ready
  · rw [works.ptb]
    exact .inl (congrArg (Ptb.peer · n) (s.atWork_ptb x))
  · obtain ⟨t, drawn⟩ : ∃ t, t = (s.atWork x).setFreeCount m := ⟨_, rfl⟩
    have ptb : t.ptb = s.atAdvance.ptb := by rw [drawn]; exact s.atWork_ptb x
    have due : t.lossDue n = (s.atWork x).lossDue n := by rw [drawn]; rfl
    have calm : t.policyInForce ≠ .follow := by
      rw [drawn]
      change (s.atWork x).policyInForce ≠ .follow
      rwa [State.atWork_policyInForce]
    have awake : t.carryLosses.mayWork = true ∨ t.carryLosses.seq.state = .frozen := by
      have state := (State.Mild.carryLosses calm).state
      have working : t.mayWork = true := by
        rw [drawn]
        change (s.atWork x).mayWork = true
        rwa [State.atWork_mayWork]
      unfold freezesOrThaws at state
      simp only [State.mayWork, Bool.or_eq_true, decide_eq_true_eq] at working ⊢
      grind
    have peer := t.carryLosses_peer n
    rw [ptb, due] at peer
    rw [worked, ← drawn, State.stepWork_ptb,
      State.carryEvaluation_ptb (State.captureError_of_state (State.not_at_rest awake)), peer]
    cases lost : (s.atWork x).lossDue n with
    | false => exact .inl (if_neg (by decide))
    | true => exact .inr ⟨works, rfl, if_pos rfl⟩

end

/-- The records age on a common wrap, and on no other sample does one change, nor the lock: the second half of O10,
which holds in every order (R122). -/
theorem State.sample_ages {s : State} (x : SampleInputs) (n : Station) (ready : s.ready) (quiet : s.noCapture) :
    (s.ctb.nextAdvance.commonWrap = false → (s.sample x).ptb = s.ptb ∧ (s.sample x).lck = s.lck)
      ∧ (s.ctb.nextAdvance.commonWrap = true →
          (n = s.own ∨ (s.ptb.peer n).state = .absent → (s.sample x).ptb.peer n = s.ptb.peer n)
          ∧ (n ≠ s.own → (s.ptb.peer n).state ≠ .absent →
              (s.sample x).ptb.peer n = (s.ptb.peer n).aged
                ∨ (s.mayWork = true ∧ n.toNat < s.count ∧ (s.ptb.peer n).aged.state = .present
                    ∧ 8 ≤ (s.ptb.peer n).aged.age
                    ∧ (s.sample x).ptb.peer n = { (s.ptb.peer n).aged with state := .lost }))) := by
  have ptb := State.atAdvance_ptb quiet
  refine ⟨fun none => ?_, fun wrap => ?_⟩
  · rw [if_neg (by simp [none])] at ptb
    obtain ⟨m, works⟩ | ⟨loss, -⟩ := State.worked_cases x ready
    · rw [State.sample_ptb, State.sample_lck, works.ptb, works.lck]
      have lck : s.atAdvance.lck = s.lck := by rw [State.atAdvance, if_neg (by simp [none])]; rfl
      exact ⟨(s.atWork_ptb x).trans ptb, (s.atWork_lck x).trans lck⟩
    · exact absurd loss.1 (by simp [none])
  · rw [if_pos wrap] at ptb
    have peer := State.sample_peer (x := x) ready n
    have aged : s.atAdvance.ptb.peer n = if n = s.own then s.ptb.peer n else (s.ptb.peer n).aged := by
      rw [ptb, Ptb.peer_aged]
    rw [aged] at peer
    refine ⟨fun stands => ?_, fun other known => ?_⟩
    · have same : (if n = s.own then s.ptb.peer n else (s.ptb.peer n).aged) = s.ptb.peer n := by
        obtain own | absent := stands
        · rw [if_pos own]
        · rw [PeerRecord.aged, if_pos absent, ite_self]
      obtain kept | ⟨-, due, -⟩ := peer
      · rw [kept, same]
      · obtain ⟨expected, present, -⟩ := (State.lossDue_atWork_iff x wrap).1 due
        obtain rfl | absent := stands
        · simp [State.expectedPeer] at expected
        · rw [absent] at present
          exact nomatch present
    · rw [if_neg other] at peer
      refine peer.imp id fun ⟨works, due, lost⟩ => ?_
      obtain ⟨expected, present, old⟩ := (State.lossDue_atWork_iff x wrap).1 due
      simp only [State.expectedPeer, Bool.and_eq_true, decide_eq_true_eq] at expected
      refine ⟨works, expected.1, (PeerRecord.aged_state _).trans present, ?_, lost⟩
      rw [PeerRecord.aged_of_present known]
      dsimp only
      omega

/-! ### The MARK of a common wrap -/

section
variable {s : State} {x : SampleInputs}

/-- The mark instant of a common wrap lies at most 1,599 ticks before its sample tick (R12). -/
theorem Ctb.mark_back_le {c : Ctb} (f : incrementFits c.f) (correction : c.c.natAbs ≤ c.f >>> 10)
    (wrap : c.nextAdvance.commonWrap = true) :
    (c.nextAdvance.theta - c.delta).toNat * 1600 / c.fEff ≤ 1599
      ∧ c.nextAdvance.markInstant
        = c.advance.tick - BitVec.ofNat 32 ((c.nextAdvance.theta - c.delta).toNat * 1600 / c.fEff) := by
  obtain ⟨low, high, -⟩ := Ctb.fEff_bounds f correction
  refine ⟨?_, rfl⟩
  have wraps : (c.theta + BitVec.ofNat 32 c.fEff - c.delta).toNat < (c.theta - c.delta).toNat := by
    simpa [Ctb.nextAdvance] using wrap
  have short : (c.nextAdvance.theta - c.delta).toNat < c.fEff := by
    have theta : c.nextAdvance.theta = c.theta + BitVec.ofNat 32 c.fEff := rfl
    rw [theta]
    clear theta wrap
    generalize c.fEff = e at *
    bv_omega
  exact Nat.le_of_lt_succ ((Nat.div_lt_iff_lt_mul (by omega)).2 (by omega))

/-- The MARK of the wrap enters a queue with room for it (R107). -/
theorem State.atWork_marks (inOrder : s.lnk.ordered) (room : s.lnk.queue.length < 8)
    (wrap : s.ctb.nextAdvance.commonWrap = true) :
    (s.atWork x).lnk.marks = [{ order := s.lnk.nextOrder, item := .mark s.ctb.nextAdvance.markInstant }]
      ∧ (s.atWork x).lnk.queue.length ≤ s.lnk.queue.length + 1 := by
  obtain ⟨l, lnk⟩ := s.atAdvance_lnk
  rw [if_pos wrap] at lnk
  rw [State.atWork_lnk, lnk]
  exact Lnk.marks_offer_mark inOrder room s.ctb.nextAdvance.markInstant

/-- SEQ's work, when no loss is drawn before it, leaves the MARK of the wrap in the queue: the first half of O10. -/
theorem State.sample_marks {m : Nat} (works : ((s.atWork x).setFreeCount m).worksFrom s.ctb.nextAdvance (s.worked x))
    (inOrder : s.lnk.ordered) (wrap : s.ctb.nextAdvance.commonWrap = true)
    (room : s.lnk.queue.length ≤ 5 ∨ (s.lnk.queue.length < 8 ∧ s.startsNothing)) :
    (s.sample x).lnk.marks = [{ order := s.lnk.nextOrder, item := .mark s.ctb.nextAdvance.markInstant }] := by
  obtain ⟨marks, longer⟩ := State.atWork_marks (x := x) inOrder (by omega) wrap
  have kept : (s.sample x).lnk.marks.Perm (s.atWork x).lnk.marks := by
    rw [State.sample_lnk]
    obtain work | withheld := works
    · obtain ⟨names, offered, others, few, none⟩ := ((s.atWork x).setFreeCount m).stepWork_offers s.ctb.nextAdvance
      rw [work]
      refine offered.marks others ?_
      change (s.atWork x).lnk.queue.length + names.length ≤ 8
      obtain short | ⟨fits, still⟩ := room
      · omega
      · have idle : ((s.atWork x).setFreeCount m).startsNothing := by
          unfold State.startsNothing
          rw [State.setFreeCount_seq, State.atWork_seq]
          exact still
        rw [none idle]
        simp only [List.length_nil]
        omega
    · rw [withheld, State.withheldWork_lnk]
      exact .refl _
  rw [marks] at kept
  exact List.perm_singleton.1 kept

end

end Sys2Proof.Machine
end

section
/-! PROOFS. O10 turns on the free value: it holds just when no loss is ever drawn before SEQ's work. A state in which
one is, and the WITHDRAW that its masked peer then causes displaces the MARK of the wrap from a queue of URGENT frames. -/

namespace Sys2Proof.Machine

theorem State.drawn_lossDue_iff {s : State} {x : SampleInputs} (wrap : s.ctb.nextAdvance.commonWrap = true) {m : Station} :
    (s.drawn x).lossDue m = true ↔ s.expectedPeer m = true ∧ (s.ptb.peer m).state = .present
      ∧ 7 ≤ (s.ptb.peer m).age :=
  State.lossDue_atWork_iff x wrap

theorem State.drawn_policyInForce (s : State) (x : SampleInputs) : (s.drawn x).policyInForce = s.policyInForce :=
  s.atWork_policyInForce x

/-! ### A state whose MARK is displaced -/

/-- A queue of seven URGENT frames. -/
def urgentLnk : Lnk :=
  { State.reset.lnk with
    nextOrder := 7
    queue := [0, 1, 2, 3, 4, 5, 6].map fun k => { order := k, item := .frame 15 (.trip .foldback 0) } }

/-- Station 1 of 3 before a common wrap that makes the loss of station 0: a step in effect under IGNORE, a gate OPEN
with station 0 in its mask, and a queue of URGENT frames. -/
def displacing : State :=
  { State.reset with
    stc := { State.reset.stc with straps := { number := 1, count := 3, offsetSelect := 0, gainSelect := 0 } }
    ctb := { State.reset.ctb with theta := 4294967295 }
    syn := { State.reset.syn with out := .live }
    seq := { State.reset.seq with
             state := .active
             image := some { StepRecord.empty with live := true, duration := some 9 } }
    jnt := { State.reset.jnt with gate := .opened, mask := 3, timeout := 100 }
    ptb := (State.reset.ptb.setPeer 1 PeerRecord.own).setPeer 0 { PeerRecord.absent with state := .present, age := 7 }
    lnk := urgentLnk
    ftu := { State.reset.ftu with stepPolicy := some .ignore } }

/-- The same with any count of drawn orders. -/
def displacingAt (n : Nat) : State := displacing.setFreeCount n

/-- The inputs of its sample. -/
def quietInputs : SampleInputs := { voltage := 0, current := 0, in0 := false, in1 := false }

section
variable (n : Nat)

theorem displacingAt_ready : (displacingAt n).ready := by
  have due : displacing.due = false := by decide
  exact ⟨rfl, due⟩

theorem displacingAt_wrap : (displacingAt n).ctb.nextAdvance.commonWrap = true := by
  have wrap : displacing.ctb.nextAdvance.commonWrap = true := by decide
  exact wrap

theorem displacingAt_fits : incrementFits (displacingAt n).ctb.f
    ∧ (displacingAt n).ctb.c.natAbs ≤ (displacingAt n).ctb.f >>> 10 :=
  have fits : (6710886 ≤ displacing.ctb.f ∧ displacing.ctb.f ≤ 11744051)
      ∧ displacing.ctb.c.natAbs ≤ displacing.ctb.f >>> 10 := by decide
  fits

theorem displacingAt_startsNothing : (displacingAt n).startsNothing := ⟨nofun, nofun, rfl⟩

theorem urgentLnk_ordered : urgentLnk.ordered := by
  have none : urgentLnk.shifter = none := rfl
  refine ⟨by decide, by decide, ?_, by decide, by decide, fun y held => ?_⟩
  · unfold TxEntry.before
    decide
  · rw [none] at held
    exact nomatch held

theorem displacingAt_policy : (displacingAt n).policyInForce = .ignore := rfl

theorem displacingAt_loss : (displacingAt n).lossAhead := by
  have due : displacing.expectedPeer 0 = true ∧ (displacing.ptb.peer 0).state = .present
      ∧ 7 ≤ (displacing.ptb.peer 0).age := by decide
  exact ⟨displacingAt_wrap n, 0, due⟩

/-- Station 0 is the one station that the wrap loses. -/
theorem displacingAt_others {m : Station} (h : (displacingAt n).expectedPeer m = true)
    (present : ((displacingAt n).ptb.peer m).state = .present) : m = 0 := by
  have one : ∀ m : Station, displacing.expectedPeer m = true → (displacing.ptb.peer m).state = .present → m = 0 := by
    decide
  exact one m h present

theorem displacingAt_undisputed : ¬ (displacingAt n).tripDisputed := by
  rintro ⟨⟨-, -, folded, -⟩, -⟩
  exact absurd folded (show ¬ (1024 < 1024) by decide)

/-! ### The displacement -/

theorem Lnk.eq_of_offersNamed_nil {l m : Lnk} (h : l.offersNamed m []) : m = l := by
  obtain ⟨items, rfl, none⟩ := h
  rw [List.map_eq_nil_iff.1 none]
  rfl

/-- With station 0 the one station that is lost, its loss is all the losses. -/
theorem State.carryLosses_of_first {w : State} (only : ∀ m, w.lossDue m = true → m = 0) :
    w.carryLosses = w.carryLoss 0 := by
  have none : ∀ m, (w.carryLoss 0).lossDue m = false := by
    intro m
    by_cases first : m = 0
    · rw [first, State.carryLoss_lossDue_same]
    · have peer := w.carryLoss_peer_ne first
      rw [State.lossDue_congr (w.carryLoss_stc 0) (congrArg _ peer) (congrArg _ peer)]
      exact Bool.eq_false_iff.2 fun due => first (only m due)
  have rest : ∀ l : List Station, l.foldl State.carryLoss (w.carryLoss 0) = w.carryLoss 0 := by
    intro l
    induction l with
    | nil => rfl
    | cons m l ih => rw [List.foldl_cons, State.carryLoss_of_not_due (none m), ih]
  have split : stations = 0 :: [1, 2, 3, 4, 5, 6, 7] := rfl
  rw [State.carryLosses, split, List.foldl_cons, rest]

/-- A loss under IGNORE of a station in the mask of an OPEN gate: JNT withdraws (R136). -/
theorem State.carryLoss_lnk_of_masked {w : State} {m : Station} (due : w.lossDue m = true)
    (ignore : w.policyInForce = .ignore) (opened : w.jnt.gate = .opened) (masked : maskHas w.jnt.mask m = true) :
    (w.carryLoss m).lnk
      = (w.lnk.remove (Payload.isJoinFor w.jnt.tag)).offer (.frame 15 (.withdraw w.jnt.tag .peerLost)) := by
  obtain ⟨v, lost⟩ : ∃ v, v = w.setPtb (w.ptb.setPeer m { w.ptb.peer m with state := .lost }) := ⟨_, rfl⟩
  obtain ⟨-, other, -⟩ := State.lossDue_iff.1 due
  have policy : v.policyInForce = .ignore := by rw [lost]; exact ignore
  have withdraws : v.maskedTrouble m .peerLost = v.withdraw .peerLost := by
    refine if_pos ?_
    rw [lost]
    simp only [State.setPtb_jnt, opened, masked, decide_true, Bool.true_and, Bool.and_self]
    exact decide_eq_true other
  have policy' : (v.withdraw .peerLost).policyInForce = .ignore := by
    rw [← withdraws, (State.Mild.maskedTrouble v m .peerLost).policyInForce, policy]
  rw [State.carryLoss_of_due due, ← lost, State.peerTrouble, if_neg (by simp [policy]), withdraws, State.applyPolicy,
    policy']
  dsimp only
  rw [ite_self, lost]
  rfl

/-- A WITHDRAW takes the place of the MARK in the queue of URGENT frames (R106). -/
theorem urgentLnk_displaces (i : Tick) (l : StartLatch) :
    ((({ urgentLnk.offer (.mark i) with latch := l } : Lnk).remove (Payload.isJoinFor 0)).offer
      (.frame 15 (.withdraw 0 .peerLost))).marks = [] := by
  rfl

/-! ### The loss drawn first -/

theorem displacingAt_drawn : ∃ l, ((displacingAt n).drawn quietInputs).lnk
    = { urgentLnk.offer (.mark (displacingAt n).ctb.nextAdvance.markInstant) with latch := l } := by
  obtain ⟨l, lnk⟩ := (displacingAt n).atAdvance_lnk
  have urgent : (displacingAt n).lnk = urgentLnk := rfl
  rw [if_pos (displacingAt_wrap n), urgent] at lnk
  exact ⟨l, by rw [State.drawn, State.setFreeCount_lnk, State.atWork_lnk, lnk]⟩

theorem displacingAt_gate : ((displacingAt n).drawn quietInputs).jnt = displacing.jnt := by
  have jnt : (displacingAt n).jnt = displacing.jnt := rfl
  have incomplete : displacing.jnt.gate ≠ .complete := by decide
  rw [State.drawn, State.setFreeCount_jnt, State.atWork_jnt, State.atAdvance_jnt, jnt,
    if_neg fun complete => incomplete complete.2]

/-- The loss drawn before SEQ's work leaves no MARK in the queue. -/
theorem displacingAt_marks (first : Config.freeOrder n = true) :
    ((displacingAt n).sample quietInputs).lnk.marks = [] := by
  have ready := displacingAt_ready n
  have loss := displacingAt_loss n
  have works : (displacingAt n).mayWork = true := rfl
  have mild : (displacingAt n).policyInForce ≠ .follow := by rw [displacingAt_policy]; nofun
  have count : Config.freeOrder (displacingAt n).freeCount = true := first
  have runs : (displacingAt n).Runs { StepRecord.empty with live := true, duration := some 9 } := ⟨.inl rfl, rfl⟩
  have worked := State.worked_of_loss (x := quietInputs) ready (displacingAt_undisputed n) works loss
    fun both => mild both.1
  rw [if_neg (by simp [count]), if_neg mild] at worked
  have ahead := State.drawn_losses_ahead (x := quietInputs) mild works
  obtain ⟨l, lnk⟩ := displacingAt_drawn n
  have jnt := displacingAt_gate n
  have due := fun m => State.drawn_lossDue_iff (x := quietInputs) (displacingAt_wrap n) (m := m)
  have policy : ((displacingAt n).drawn quietInputs).policyInForce = .ignore :=
    ((displacingAt n).drawn_policyInForce quietInputs).trans (displacingAt_policy n)
  generalize (displacingAt n).drawn quietInputs = w at worked ahead lnk jnt due policy
  have only : ∀ m, w.lossDue m = true → m = 0 := fun m lost =>
    displacingAt_others n ((due m).1 lost).1 ((due m).1 lost).2.1
  have zero : w.lossDue 0 = true := by
    obtain ⟨-, m, lost⟩ := loss
    rwa [← only m ((due m).2 lost), due]
  have withdrawn := State.carryLoss_lnk_of_masked zero policy (by rw [jnt]; rfl) (by rw [jnt]; rfl)
  rw [← State.carryLosses_of_first only, lnk, jnt] at withdrawn
  obtain ⟨k, latched⟩ := w.carryLosses.carryEvaluation_lnk
  have idle : w.afterLosses.startsNothing := by
    have state := (ahead.runs runs.atWork).state
    refine ⟨?_, ?_, ?_⟩
    · obtain state | state := state <;> rw [state] <;> nofun
    · obtain state | state := state <;> rw [state] <;> nofun
    · rw [ahead.seq, State.atWork_seq]
      rfl
  obtain ⟨names, offered, -, -, none⟩ := w.afterLosses.stepWork_offers (displacingAt n).ctb.nextAdvance
  rw [none idle] at offered
  rw [State.sample_lnk, worked, Lnk.eq_of_offersNamed_nil offered, State.afterLosses, latched, withdrawn]
  exact urgentLnk_displaces _ l

end

/-! ### O10 and the free value -/

/-- With no order drawn before SEQ's work, that work is of the state it begins in, or withheld from it. -/
theorem State.worked_of_second (second : ∀ n, Config.freeOrder n = false) (s : State) (x : SampleInputs) :
    ∃ m, ((s.atWork x).setFreeCount m).worksFrom s.ctb.nextAdvance (s.worked x) := by
  have losses (v : State) (a : Advance) : ∃ m, v.workAndLosses a = (v.setFreeCount m).stepWork a := by
    simp only [State.workAndLosses, second]
    split
    · exact ⟨_, rfl⟩
    · exact ⟨v.freeCount, rfl⟩
  simp only [State.worked, State.orderedWork, second]
  split
  · obtain ⟨m, work⟩ := losses (s.atWork x).countOrder s.ctb.nextAdvance
    exact ⟨m, .inl work⟩
  · obtain ⟨m, work⟩ := losses (s.atWork x) s.ctb.nextAdvance
    exact ⟨m, .inl work⟩

/-- O10 is left open: its first half is the claim that the free value, of which nothing is known, draws every loss
after SEQ's work; where one is drawn before it, `displacingAt` loses the MARK of the wrap. Its second half holds in
every order (`State.sample_ages`). -/
theorem commonWrapMarksAndAges_iff_freeOrder :
    Obligations.CommonWrapMarksAndAges ↔ ∀ n, Config.freeOrder n = false := by
  unfold Obligations.CommonWrapMarksAndAges
  refine ⟨fun claim n => Bool.eq_false_iff.2 fun first => ?_, fun second => ⟨?_, ?_⟩⟩
  · obtain ⟨fits, correction⟩ := displacingAt_fits n
    obtain ⟨t, back, done, -, -, marked⟩ := claim.1 (displacingAt n) quietInputs (displacingAt_ready n)
      (Nat.zero_le _) (displacingAt_wrap n) fits correction urgentLnk_ordered
      (.inr ⟨(show urgentLnk.queue.length < 8 by decide), displacingAt_startsNothing n⟩)
    rw [exec_sampleEvent_of_ready (displacingAt_ready n)] at done
    obtain rfl := Host.Outcome.next.inj done
    have none := displacingAt_marks n first
    rw [Lnk.marks] at none
    rw [none] at marked
    exact nomatch marked
  · intro s x ready divider wrap fits correction inOrder room
    obtain ⟨within, instant⟩ := Ctb.mark_back_le fits correction wrap
    obtain ⟨m, works⟩ := State.worked_of_second second s x
    have marks := State.sample_marks works inOrder wrap room
    refine ⟨s.sample x, _, exec_sampleEvent_of_ready ready x, within, rfl, ?_⟩
    rw [(s.sample_ctb_fields x).1, ← instant]
    rw [Lnk.marks] at marks
    rw [marks]
    rfl
  · intro s x n ready quiet
    obtain ⟨still, ages⟩ := State.sample_ages x n ready quiet
    refine ⟨s.sample x, exec_sampleEvent_of_ready ready x, still, fun wrap => ⟨(ages wrap).1, fun other known => ?_⟩⟩
    have aged := PeerRecord.aged_of_present known
    have either := (ages wrap).2 other known
    rw [aged] at either
    exact either

end Sys2Proof.Machine
end
